-- ==== Sys2Proof/Word.lean ====
section
/-! DEFINITION. The two data widths of the core (10_state.md R10 to R16): a byte and a 16-bit word. -/

namespace Sys2Proof

/-- Eight bits: a byte view of a register, a memory cell, a port cell. -/
abbrev Byte := BitVec 8

/-- Sixteen bits: a register, an offset, a port address. -/
abbrev Word := BitVec 16

end Sys2Proof
end

