-- ==== Sys2Proof/Syntax.lean ====
section
/-! DEFINITION. The instruction set as syntax: registers, the ModRM operand, and `Instr`, one constructor per row of
spec/opcode_table.json (30_encoding.md R77, R80, R81, R84). -/

namespace Sys2Proof

/-- `reg8[c]` in code order 0 to 7 (10_state.md R12). -/
inductive Reg8 where
  | al | cl | dl | bl | ah | ch | dh | bh
  deriving DecidableEq, Repr

/-- `reg16[c]` in code order 0 to 7 (10_state.md R12). -/
inductive Reg16 where
  | aw | cw | dw | bw | sp | bp | ix | iy
  deriving DecidableEq, Repr

/-- `sreg[c]` in code order 0 to 3 (10_state.md R17). -/
inductive SReg where
  | ds1 | ps | ss | ds0
  deriving DecidableEq, Repr

/-- The base register combination of the ModRM memory field, in code order 0 to 7 (30_encoding.md R73). -/
inductive Base where
  | bwIx | bwIy | bpIx | bpIy | ix | iy | bp | bw
  deriving DecidableEq, Repr

/-- The r/m operand of a ModRM byte with its displacement (30_encoding.md R72, R73); `ρ` is the register type of the
operand's width. -/
inductive RM (ρ : Type) where
  /-- mode 3: a register -/
  | reg (r : ρ)
  /-- mode 0: a base combination without displacement; `Base.bp` has no such form -/
  | mem (b : Base)
  /-- mode 0, memory field 6: a 16-bit direct address -/
  | direct (addr : Word)
  /-- mode 1: an 8-bit displacement, sign-extended -/
  | mem8 (b : Base) (disp : Byte)
  /-- mode 2: a 16-bit displacement -/
  | mem16 (b : Base) (disp : Word)
  deriving DecidableEq, Repr

/-- The r/m operand of a byte instruction. -/
abbrev RM8 := RM Reg8

/-- The r/m operand of a word instruction. -/
abbrev RM16 := RM Reg16

/-- One constructor per row of spec/opcode_table.json: the rows with operands in the table's order, then the rows without
(Lean's runtime bounds the position of a constructor that has arguments). The comment of each gives the row's match
value (first byte, second byte), its name in the spec and its rule. Rows that only raise a fault carry what the fault
records: the r/m operand, the register field `code`, the sub-opcode or the byte after REP. -/
inductive Instr where
  /-- 00 00: ADD r/m8, reg8 (R111) -/
  | addRm8Reg8 (rm : RM8) (reg : Reg8)
  /-- 01 00: ADD r/m16, reg16 (R111) -/
  | addRm16Reg16 (rm : RM16) (reg : Reg16)
  /-- 02 00: ADD reg8, r/m8 (R111) -/
  | addReg8Rm8 (reg : Reg8) (rm : RM8)
  /-- 03 00: ADD reg16, r/m16 (R111) -/
  | addReg16Rm16 (reg : Reg16) (rm : RM16)
  /-- 04 00: ADD AL, imm8 (R111) -/
  | addAlImm8 (imm : Byte)
  /-- 05 00: ADD AW, imm16 (R111) -/
  | addAwImm16 (imm : Word)
  /-- 08 00: OR r/m8, reg8 (R112) -/
  | orRm8Reg8 (rm : RM8) (reg : Reg8)
  /-- 09 00: OR r/m16, reg16 (R112) -/
  | orRm16Reg16 (rm : RM16) (reg : Reg16)
  /-- 0A 00: OR reg8, r/m8 (R112) -/
  | orReg8Rm8 (reg : Reg8) (rm : RM8)
  /-- 0B 00: OR reg16, r/m16 (R112) -/
  | orReg16Rm16 (reg : Reg16) (rm : RM16)
  /-- 0C 00: OR AL, imm8 (R112) -/
  | orAlImm8 (imm : Byte)
  /-- 0D 00: OR AW, imm16 (R112) -/
  | orAwImm16 (imm : Word)
  /-- 0F 00: 0F 00/80 (unimplemented sub-opcode) (R273) -/
  | escUnimp00 (sub : Byte)
  /-- 0F 80: 0F 80/C0 (unimplemented sub-opcode) (R273) -/
  | escUnimp80 (sub : Byte)
  /-- 0F C0: 0F C0/E0 (unimplemented sub-opcode) (R273) -/
  | escUnimpC0 (sub : Byte)
  /-- 0F E0: BRKXA imm8 (R271) -/
  | brkxa (n : Byte)
  /-- 0F E2: 0F E2/FE (unimplemented sub-opcode) (R273) -/
  | escUnimpE2 (sub : Byte)
  /-- 0F E4: 0F E4/FC (unimplemented sub-opcode) (R273) -/
  | escUnimpE4 (sub : Byte)
  /-- 0F E8: 0F E8/F8 (unimplemented sub-opcode) (R273) -/
  | escUnimpE8 (sub : Byte)
  /-- 0F F0: RETXA imm8 (R272) -/
  | retxa (n : Byte)
  /-- 0F F2: 0F F2/FE (unimplemented sub-opcode) (R273) -/
  | escUnimpF2 (sub : Byte)
  /-- 0F F4: 0F F4/FC (unimplemented sub-opcode) (R273) -/
  | escUnimpF4 (sub : Byte)
  /-- 0F F8: 0F F8/F8 (unimplemented sub-opcode) (R273) -/
  | escUnimpF8 (sub : Byte)
  /-- 20 00: AND r/m8, reg8 (R113) -/
  | andRm8Reg8 (rm : RM8) (reg : Reg8)
  /-- 21 00: AND r/m16, reg16 (R113) -/
  | andRm16Reg16 (rm : RM16) (reg : Reg16)
  /-- 22 00: AND reg8, r/m8 (R113) -/
  | andReg8Rm8 (reg : Reg8) (rm : RM8)
  /-- 23 00: AND reg16, r/m16 (R113) -/
  | andReg16Rm16 (reg : Reg16) (rm : RM16)
  /-- 24 00: AND AL, imm8 (R113) -/
  | andAlImm8 (imm : Byte)
  /-- 25 00: AND AW, imm16 (R113) -/
  | andAwImm16 (imm : Word)
  /-- 28 00: SUB r/m8, reg8 (R114) -/
  | subRm8Reg8 (rm : RM8) (reg : Reg8)
  /-- 29 00: SUB r/m16, reg16 (R114) -/
  | subRm16Reg16 (rm : RM16) (reg : Reg16)
  /-- 2A 00: SUB reg8, r/m8 (R114) -/
  | subReg8Rm8 (reg : Reg8) (rm : RM8)
  /-- 2B 00: SUB reg16, r/m16 (R114) -/
  | subReg16Rm16 (reg : Reg16) (rm : RM16)
  /-- 2C 00: SUB AL, imm8 (R114) -/
  | subAlImm8 (imm : Byte)
  /-- 2D 00: SUB AW, imm16 (R114) -/
  | subAwImm16 (imm : Word)
  /-- 30 00: XOR r/m8, reg8 (R115) -/
  | xorRm8Reg8 (rm : RM8) (reg : Reg8)
  /-- 31 00: XOR r/m16, reg16 (R115) -/
  | xorRm16Reg16 (rm : RM16) (reg : Reg16)
  /-- 32 00: XOR reg8, r/m8 (R115) -/
  | xorReg8Rm8 (reg : Reg8) (rm : RM8)
  /-- 33 00: XOR reg16, r/m16 (R115) -/
  | xorReg16Rm16 (reg : Reg16) (rm : RM16)
  /-- 34 00: XOR AL, imm8 (R115) -/
  | xorAlImm8 (imm : Byte)
  /-- 35 00: XOR AW, imm16 (R115) -/
  | xorAwImm16 (imm : Word)
  /-- 38 00: CMP r/m8, reg8 (R116) -/
  | cmpRm8Reg8 (rm : RM8) (reg : Reg8)
  /-- 39 00: CMP r/m16, reg16 (R116) -/
  | cmpRm16Reg16 (rm : RM16) (reg : Reg16)
  /-- 3A 00: CMP reg8, r/m8 (R116) -/
  | cmpReg8Rm8 (reg : Reg8) (rm : RM8)
  /-- 3B 00: CMP reg16, r/m16 (R116) -/
  | cmpReg16Rm16 (reg : Reg16) (rm : RM16)
  /-- 3C 00: CMP AL, imm8 (R116) -/
  | cmpAlImm8 (imm : Byte)
  /-- 3D 00: CMP AW, imm16 (R116) -/
  | cmpAwImm16 (imm : Word)
  /-- 40 00: INC reg16 (R118) -/
  | incReg16 (reg : Reg16)
  /-- 48 00: DEC reg16 (R119) -/
  | decReg16 (reg : Reg16)
  /-- 50 00: PUSH reg16 (R160) -/
  | pushReg16 (reg : Reg16)
  /-- 58 00: POP reg16 (R161) -/
  | popReg16 (reg : Reg16)
  /-- 70 00: BV disp8 (R208) -/
  | bv (disp : Byte)
  /-- 71 00: BNV disp8 (R209) -/
  | bnv (disp : Byte)
  /-- 72 00: BC/BL disp8 (R210) -/
  | bc (disp : Byte)
  /-- 73 00: BNC/BNL disp8 (R211) -/
  | bnc (disp : Byte)
  /-- 74 00: BE/BZ disp8 (R212) -/
  | be (disp : Byte)
  /-- 75 00: BNE/BNZ disp8 (R213) -/
  | bne (disp : Byte)
  /-- 76 00: BNH disp8 (R214) -/
  | bnh (disp : Byte)
  /-- 77 00: BH disp8 (R215) -/
  | bh (disp : Byte)
  /-- 78 00: BN disp8 (R216) -/
  | bn (disp : Byte)
  /-- 79 00: BP disp8 (R217) -/
  | bp (disp : Byte)
  /-- 7A 00: BPE disp8 (R218) -/
  | bpe (disp : Byte)
  /-- 7B 00: BPO disp8 (R219) -/
  | bpo (disp : Byte)
  /-- 7C 00: BLT disp8 (R220) -/
  | blt (disp : Byte)
  /-- 7D 00: BGE disp8 (R221) -/
  | bge (disp : Byte)
  /-- 7E 00: BLE disp8 (R222) -/
  | ble (disp : Byte)
  /-- 7F 00: BGT disp8 (R223) -/
  | bgt (disp : Byte)
  /-- 80 00: ADD r/m8, imm8 (80 /0) (R111) -/
  | addRm8Imm8 (rm : RM8) (imm : Byte)
  /-- 80 08: OR r/m8, imm8 (80 /1) (R112) -/
  | orRm8Imm8 (rm : RM8) (imm : Byte)
  /-- 80 10: ADDC r/m8, imm8 (80 /2, unimplemented) (R121) -/
  | addcRm8Imm8Unimp (rm : RM8)
  /-- 80 18: SUBC r/m8, imm8 (80 /3, unimplemented) (R121) -/
  | subcRm8Imm8Unimp (rm : RM8)
  /-- 80 20: AND r/m8, imm8 (80 /4) (R113) -/
  | andRm8Imm8 (rm : RM8) (imm : Byte)
  /-- 80 28: SUB r/m8, imm8 (80 /5) (R114) -/
  | subRm8Imm8 (rm : RM8) (imm : Byte)
  /-- 80 30: XOR r/m8, imm8 (80 /6) (R115) -/
  | xorRm8Imm8 (rm : RM8) (imm : Byte)
  /-- 80 38: CMP r/m8, imm8 (80 /7) (R116) -/
  | cmpRm8Imm8 (rm : RM8) (imm : Byte)
  /-- 81 00: ADD r/m16, imm16 (81 /0) (R111) -/
  | addRm16Imm16 (rm : RM16) (imm : Word)
  /-- 81 08: OR r/m16, imm16 (81 /1) (R112) -/
  | orRm16Imm16 (rm : RM16) (imm : Word)
  /-- 81 10: ADDC r/m16, imm16 (81 /2, unimplemented) (R121) -/
  | addcRm16Imm16Unimp (rm : RM16)
  /-- 81 18: SUBC r/m16, imm16 (81 /3, unimplemented) (R121) -/
  | subcRm16Imm16Unimp (rm : RM16)
  /-- 81 20: AND r/m16, imm16 (81 /4) (R113) -/
  | andRm16Imm16 (rm : RM16) (imm : Word)
  /-- 81 28: SUB r/m16, imm16 (81 /5) (R114) -/
  | subRm16Imm16 (rm : RM16) (imm : Word)
  /-- 81 30: XOR r/m16, imm16 (81 /6) (R115) -/
  | xorRm16Imm16 (rm : RM16) (imm : Word)
  /-- 81 38: CMP r/m16, imm16 (81 /7) (R116) -/
  | cmpRm16Imm16 (rm : RM16) (imm : Word)
  /-- 83 00: ADD r/m16, sext(imm8) (83 /0) (R111) -/
  | addRm16Simm8 (rm : RM16) (imm : Byte)
  /-- 83 08: OR r/m16, sext(imm8) (83 /1) (R112) -/
  | orRm16Simm8 (rm : RM16) (imm : Byte)
  /-- 83 10: ADDC r/m16, sext(imm8) (83 /2, unimplemented) (R121) -/
  | addcRm16Simm8Unimp (rm : RM16)
  /-- 83 18: SUBC r/m16, sext(imm8) (83 /3, unimplemented) (R121) -/
  | subcRm16Simm8Unimp (rm : RM16)
  /-- 83 20: AND r/m16, sext(imm8) (83 /4) (R113) -/
  | andRm16Simm8 (rm : RM16) (imm : Byte)
  /-- 83 28: SUB r/m16, sext(imm8) (83 /5) (R114) -/
  | subRm16Simm8 (rm : RM16) (imm : Byte)
  /-- 83 30: XOR r/m16, sext(imm8) (83 /6) (R115) -/
  | xorRm16Simm8 (rm : RM16) (imm : Byte)
  /-- 83 38: CMP r/m16, sext(imm8) (83 /7) (R116) -/
  | cmpRm16Simm8 (rm : RM16) (imm : Byte)
  /-- 88 00: MOV r/m8, reg8 (R140) -/
  | movRm8Reg8 (rm : RM8) (reg : Reg8)
  /-- 89 00: MOV r/m16, reg16 (R140) -/
  | movRm16Reg16 (rm : RM16) (reg : Reg16)
  /-- 8A 00: MOV reg8, r/m8 (R141) -/
  | movReg8Rm8 (reg : Reg8) (rm : RM8)
  /-- 8B 00: MOV reg16, r/m16 (R141) -/
  | movReg16Rm16 (reg : Reg16) (rm : RM16)
  /-- 8C 00: MOV r/m16, sreg (R142) -/
  | movRm16Sreg (rm : RM16) (src : SReg)
  /-- 8C 20: MOV r/m16, sreg (reg 4..7, undefined) (R142) -/
  | movRm16SregUndef (rm : RM16) (code : BitVec 3)
  /-- 8E 00: MOV DS1, r/m16 (R143) -/
  | movDs1Rm16 (rm : RM16)
  /-- 8E 08: MOV PS, r/m16 (undefined) (R143) -/
  | movPsRm16Undef (rm : RM16)
  /-- 8E 10: MOV SS/DS0, r/m16 (R143) -/
  | movSsDs0Rm16 (dst : SReg) (rm : RM16)
  /-- 8E 20: MOV sreg, r/m16 (reg 4..7, undefined) (R143) -/
  | movSregRm16Undef (rm : RM16) (code : BitVec 3)
  /-- 9A 00: CALL far off16:seg16 (R204) -/
  | callFar (off : Word) (seg : Word)
  /-- A0 00: MOV AL, [addr16] (R147) -/
  | movAlDirect (addr : Word)
  /-- A1 00: MOV AW, [addr16] (R147) -/
  | movAwDirect (addr : Word)
  /-- A2 00: MOV [addr16], AL (R148) -/
  | movDirectAl (addr : Word)
  /-- A3 00: MOV [addr16], AW (R148) -/
  | movDirectAw (addr : Word)
  /-- B0 00: MOV reg8, imm8 (R144) -/
  | movReg8Imm8 (reg : Reg8) (imm : Byte)
  /-- B8 00: MOV reg16, imm16 (R145) -/
  | movReg16Imm16 (reg : Reg16) (imm : Word)
  /-- C0 00: ROL r/m8, imm8 (C0 /0) (R251) -/
  | rolRm8Imm8 (rm : RM8) (count : Byte)
  /-- C0 08: ROR r/m8, imm8 (C0 /1) (R252) -/
  | rorRm8Imm8 (rm : RM8) (count : Byte)
  /-- C0 10: ROLC r/m8, imm8 (C0 /2) (R253) -/
  | rolcRm8Imm8 (rm : RM8) (count : Byte)
  /-- C0 18: RORC r/m8, imm8 (C0 /3) (R254) -/
  | rorcRm8Imm8 (rm : RM8) (count : Byte)
  /-- C0 20: SHL r/m8, imm8 (C0 /4) (R255) -/
  | shlRm8Imm8 (rm : RM8) (count : Byte)
  /-- C0 28: SHR r/m8, imm8 (C0 /5) (R256) -/
  | shrRm8Imm8 (rm : RM8) (count : Byte)
  /-- C0 30: C0 /6 (undefined) (R258) -/
  | shiftC0Undef (rm : RM8)
  /-- C0 38: SHRA r/m8, imm8 (C0 /7) (R257) -/
  | shraRm8Imm8 (rm : RM8) (count : Byte)
  /-- C1 00: ROL r/m16, imm8 (C1 /0) (R251) -/
  | rolRm16Imm8 (rm : RM16) (count : Byte)
  /-- C1 08: ROR r/m16, imm8 (C1 /1) (R252) -/
  | rorRm16Imm8 (rm : RM16) (count : Byte)
  /-- C1 10: ROLC r/m16, imm8 (C1 /2) (R253) -/
  | rolcRm16Imm8 (rm : RM16) (count : Byte)
  /-- C1 18: RORC r/m16, imm8 (C1 /3) (R254) -/
  | rorcRm16Imm8 (rm : RM16) (count : Byte)
  /-- C1 20: SHL r/m16, imm8 (C1 /4) (R255) -/
  | shlRm16Imm8 (rm : RM16) (count : Byte)
  /-- C1 28: SHR r/m16, imm8 (C1 /5) (R256) -/
  | shrRm16Imm8 (rm : RM16) (count : Byte)
  /-- C1 30: C1 /6 (undefined) (R258) -/
  | shiftC1Undef (rm : RM16)
  /-- C1 38: SHRA r/m16, imm8 (C1 /7) (R257) -/
  | shraRm16Imm8 (rm : RM16) (count : Byte)
  /-- C6 00: MOV r/m8, imm8 (C6 /0) (R146) -/
  | movRm8Imm8 (rm : RM8) (imm : Byte)
  /-- C6 08: C6 /1 (undefined) (R146) -/
  | movC6Undef1 (rm : RM8)
  /-- C6 10: C6 /2,/3 (undefined) (R146) -/
  | movC6Undef2to3 (rm : RM8) (code : BitVec 3)
  /-- C6 20: C6 /4../7 (undefined) (R146) -/
  | movC6Undef4to7 (rm : RM8) (code : BitVec 3)
  /-- C7 00: MOV r/m16, imm16 (C7 /0) (R146) -/
  | movRm16Imm16 (rm : RM16) (imm : Word)
  /-- C7 08: C7 /1 (undefined) (R146) -/
  | movC7Undef1 (rm : RM16)
  /-- C7 10: C7 /2,/3 (undefined) (R146) -/
  | movC7Undef2to3 (rm : RM16) (code : BitVec 3)
  /-- C7 20: C7 /4../7 (undefined) (R146) -/
  | movC7Undef4to7 (rm : RM16) (code : BitVec 3)
  /-- D0 00: ROL r/m8, 1 (D0 /0) (R251) -/
  | rolRm8One (rm : RM8)
  /-- D0 08: ROR r/m8, 1 (D0 /1) (R252) -/
  | rorRm8One (rm : RM8)
  /-- D0 10: ROLC r/m8, 1 (D0 /2) (R253) -/
  | rolcRm8One (rm : RM8)
  /-- D0 18: RORC r/m8, 1 (D0 /3) (R254) -/
  | rorcRm8One (rm : RM8)
  /-- D0 20: SHL r/m8, 1 (D0 /4) (R255) -/
  | shlRm8One (rm : RM8)
  /-- D0 28: SHR r/m8, 1 (D0 /5) (R256) -/
  | shrRm8One (rm : RM8)
  /-- D0 30: D0 /6 (undefined) (R258) -/
  | shiftD0Undef (rm : RM8)
  /-- D0 38: SHRA r/m8, 1 (D0 /7) (R257) -/
  | shraRm8One (rm : RM8)
  /-- D1 00: ROL r/m16, 1 (D1 /0) (R251) -/
  | rolRm16One (rm : RM16)
  /-- D1 08: ROR r/m16, 1 (D1 /1) (R252) -/
  | rorRm16One (rm : RM16)
  /-- D1 10: ROLC r/m16, 1 (D1 /2) (R253) -/
  | rolcRm16One (rm : RM16)
  /-- D1 18: RORC r/m16, 1 (D1 /3) (R254) -/
  | rorcRm16One (rm : RM16)
  /-- D1 20: SHL r/m16, 1 (D1 /4) (R255) -/
  | shlRm16One (rm : RM16)
  /-- D1 28: SHR r/m16, 1 (D1 /5) (R256) -/
  | shrRm16One (rm : RM16)
  /-- D1 30: D1 /6 (undefined) (R258) -/
  | shiftD1Undef (rm : RM16)
  /-- D1 38: SHRA r/m16, 1 (D1 /7) (R257) -/
  | shraRm16One (rm : RM16)
  /-- D2 00: ROL r/m8, CL (D2 /0) (R251) -/
  | rolRm8Cl (rm : RM8)
  /-- D2 08: ROR r/m8, CL (D2 /1) (R252) -/
  | rorRm8Cl (rm : RM8)
  /-- D2 10: ROLC r/m8, CL (D2 /2) (R253) -/
  | rolcRm8Cl (rm : RM8)
  /-- D2 18: RORC r/m8, CL (D2 /3) (R254) -/
  | rorcRm8Cl (rm : RM8)
  /-- D2 20: SHL r/m8, CL (D2 /4) (R255) -/
  | shlRm8Cl (rm : RM8)
  /-- D2 28: SHR r/m8, CL (D2 /5) (R256) -/
  | shrRm8Cl (rm : RM8)
  /-- D2 30: D2 /6 (undefined) (R258) -/
  | shiftD2Undef (rm : RM8)
  /-- D2 38: SHRA r/m8, CL (D2 /7) (R257) -/
  | shraRm8Cl (rm : RM8)
  /-- D3 00: ROL r/m16, CL (D3 /0) (R251) -/
  | rolRm16Cl (rm : RM16)
  /-- D3 08: ROR r/m16, CL (D3 /1) (R252) -/
  | rorRm16Cl (rm : RM16)
  /-- D3 10: ROLC r/m16, CL (D3 /2) (R253) -/
  | rolcRm16Cl (rm : RM16)
  /-- D3 18: RORC r/m16, CL (D3 /3) (R254) -/
  | rorcRm16Cl (rm : RM16)
  /-- D3 20: SHL r/m16, CL (D3 /4) (R255) -/
  | shlRm16Cl (rm : RM16)
  /-- D3 28: SHR r/m16, CL (D3 /5) (R256) -/
  | shrRm16Cl (rm : RM16)
  /-- D3 30: D3 /6 (undefined) (R258) -/
  | shiftD3Undef (rm : RM16)
  /-- D3 38: SHRA r/m16, CL (D3 /7) (R257) -/
  | shraRm16Cl (rm : RM16)
  /-- E4 00: IN AL, imm8 (R240) -/
  | inAlImm8 (port : Byte)
  /-- E5 00: IN AW, imm8 (R241) -/
  | inAwImm8 (port : Byte)
  /-- E6 00: OUT imm8, AL (R242) -/
  | outImm8Al (port : Byte)
  /-- E7 00: OUT imm8, AW (R243) -/
  | outImm8Aw (port : Byte)
  /-- E8 00: CALL near disp16 (R203) -/
  | callNear (disp : Word)
  /-- E9 00: BR near disp16 (R200) -/
  | brNear (disp : Word)
  /-- EA 00: BR far off16:seg16 (R202) -/
  | brFar (off : Word) (seg : Word)
  /-- EB 00: BR short disp8 (R201) -/
  | brShort (disp : Byte)
  /-- F3 00: REP 00/C0 (follower not repeatable) (R186) -/
  | repUnimp00 (follower : Byte)
  /-- F3 40: REP 40/E0 (follower not repeatable) (R186) -/
  | repUnimp40 (follower : Byte)
  /-- F3 60: REP 60/F8 (follower not repeatable) (R186) -/
  | repUnimp60 (follower : Byte)
  /-- F3 68: REP 68/FC (follower not repeatable) (R186) -/
  | repUnimp68 (follower : Byte)
  /-- F3 70: REP 70/F0 (follower not repeatable) (R186) -/
  | repUnimp70 (follower : Byte)
  /-- F3 80: REP 80/E0 (follower not repeatable) (R186) -/
  | repUnimp80 (follower : Byte)
  /-- F3 A0: REP A0/FC (follower not repeatable) (R186) -/
  | repUnimpA0 (follower : Byte)
  /-- F3 A8: REP A8/FE (follower not repeatable) (R186) -/
  | repUnimpA8 (follower : Byte)
  /-- F3 B0: REP B0/F0 (follower not repeatable) (R186) -/
  | repUnimpB0 (follower : Byte)
  /-- F3 C0: REP C0/C0 (follower not repeatable) (R186) -/
  | repUnimpC0 (follower : Byte)
  /-- F6 00: F6 /0../3 (unimplemented) (R285) -/
  | groupF6Unimp0to3 (rm : RM8) (code : BitVec 3)
  /-- F6 20: F6 /4,/5 (unimplemented) (R285) -/
  | groupF6Unimp4to5 (rm : RM8) (code : BitVec 3)
  /-- F6 30: DIVU r/m8 (F6 /6) (R281) -/
  | divuRm8 (rm : RM8)
  /-- F6 38: DIV r/m8 (F6 /7) (R283) -/
  | divRm8 (rm : RM8)
  /-- F7 00: F7 /0../3 (unimplemented) (R285) -/
  | groupF7Unimp0to3 (rm : RM16) (code : BitVec 3)
  /-- F7 20: F7 /4,/5 (unimplemented) (R285) -/
  | groupF7Unimp4to5 (rm : RM16) (code : BitVec 3)
  /-- F7 30: DIVU r/m16 (F7 /6) (R282) -/
  | divuRm16 (rm : RM16)
  /-- F7 38: DIV r/m16 (F7 /7) (R284) -/
  | divRm16 (rm : RM16)
  /-- 06 00: PUSH DS1 (R162) -/
  | pushDs1
  /-- 07 00: POP DS1 (R163) -/
  | popDs1
  /-- 0E 00: PUSH PS (R162) -/
  | pushPs
  /-- 0F E1: 0F E1/FF (unimplemented sub-opcode) (R273) -/
  | escUnimpE1
  /-- 0F F1: 0F F1/FF (unimplemented sub-opcode) (R273) -/
  | escUnimpF1
  /-- 10 00: 10 unimplemented (silicon name: ADDC) (R121) -/
  | unimp10
  /-- 11 00: 11 unimplemented (silicon name: ADDC) (R121) -/
  | unimp11
  /-- 12 00: 12 unimplemented (silicon name: ADDC) (R121) -/
  | unimp12
  /-- 13 00: 13 unimplemented (silicon name: ADDC) (R121) -/
  | unimp13
  /-- 14 00: 14 unimplemented (silicon name: ADDC) (R121) -/
  | unimp14
  /-- 15 00: 15 unimplemented (silicon name: ADDC) (R121) -/
  | unimp15
  /-- 16 00: PUSH SS (R162) -/
  | pushSs
  /-- 17 00: POP SS (R163) -/
  | popSs
  /-- 18 00: 18 unimplemented (silicon name: SUBC) (R121) -/
  | unimp18
  /-- 19 00: 19 unimplemented (silicon name: SUBC) (R121) -/
  | unimp19
  /-- 1A 00: 1A unimplemented (silicon name: SUBC) (R121) -/
  | unimp1A
  /-- 1B 00: 1B unimplemented (silicon name: SUBC) (R121) -/
  | unimp1B
  /-- 1C 00: 1C unimplemented (silicon name: SUBC) (R121) -/
  | unimp1C
  /-- 1D 00: 1D unimplemented (silicon name: SUBC) (R121) -/
  | unimp1D
  /-- 1E 00: PUSH DS0 (R162) -/
  | pushDs0
  /-- 1F 00: POP DS0 (R163) -/
  | popDs0
  /-- 26 00: DS1: (segment-override prefix) (R101) -/
  | prefixDs1
  /-- 27 00: 27 unimplemented (silicon name: ADJ4A) (R80) -/
  | unimp27
  /-- 2E 00: PS: (segment-override prefix) (R102) -/
  | prefixPs
  /-- 2F 00: 2F unimplemented (silicon name: ADJ4S) (R80) -/
  | unimp2F
  /-- 36 00: SS: (segment-override prefix) (R103) -/
  | prefixSs
  /-- 37 00: 37 unimplemented (silicon name: ADJBA) (R80) -/
  | unimp37
  /-- 3E 00: DS0: (segment-override prefix) (R104) -/
  | prefixDs0
  /-- 3F 00: 3F unimplemented (silicon name: ADJBS) (R80) -/
  | unimp3F
  /-- 60 00: 60 unimplemented (silicon name: PUSH R) (R166) -/
  | unimp60
  /-- 61 00: 61 unimplemented (silicon name: POP R) (R166) -/
  | unimp61
  /-- 62 00: 62 unimplemented (silicon name: CHKIND) (R80) -/
  | unimp62
  /-- 63 00: 63 unimplemented (silicon name: (undefined on the silicon)) (R80) -/
  | unimp63
  /-- 64 00: 64 unimplemented (silicon name: REPNC) (R190) -/
  | unimp64
  /-- 65 00: 65 unimplemented (silicon name: REPC) (R190) -/
  | unimp65
  /-- 66 00: 66 unimplemented (silicon name: FPO2) (R80) -/
  | unimp66
  /-- 67 00: 67 unimplemented (silicon name: FPO2) (R80) -/
  | unimp67
  /-- 68 00: 68 unimplemented (silicon name: PUSH imm16) (R166) -/
  | unimp68
  /-- 69 00: 69 unimplemented (silicon name: MUL imm16) (R80) -/
  | unimp69
  /-- 6A 00: 6A unimplemented (silicon name: PUSH imm8) (R166) -/
  | unimp6A
  /-- 6B 00: 6B unimplemented (silicon name: MUL imm8) (R80) -/
  | unimp6B
  /-- 6C 00: INM byte (R185) -/
  | inmByte
  /-- 6D 00: INM word (R185) -/
  | inmWord
  /-- 6E 00: OUTM byte (R184) -/
  | outmByte
  /-- 6F 00: OUTM word (R184) -/
  | outmWord
  /-- 82 00: 82 unimplemented (silicon name: (alias of 80 on the 8086)) (R80) -/
  | unimp82
  /-- 84 00: 84 unimplemented (silicon name: TEST r/m8, reg8) (R80) -/
  | unimp84
  /-- 85 00: 85 unimplemented (silicon name: TEST r/m16, reg16) (R80) -/
  | unimp85
  /-- 86 00: 86 unimplemented (silicon name: XCH r/m8, reg8) (R80) -/
  | unimp86
  /-- 87 00: 87 unimplemented (silicon name: XCH r/m16, reg16) (R80) -/
  | unimp87
  /-- 8D 00: 8D unimplemented (silicon name: LDEA) (R80) -/
  | unimp8D
  /-- 8F 00: 8F unimplemented (silicon name: POP r/m16) (R166) -/
  | unimp8F
  /-- 90 00: 90 unimplemented (silicon name: NOP) (R80) -/
  | unimp90
  /-- 91 00: 91 unimplemented (silicon name: XCH AW, reg16) (R80) -/
  | unimp91
  /-- 92 00: 92 unimplemented (silicon name: XCH AW, reg16) (R80) -/
  | unimp92
  /-- 93 00: 93 unimplemented (silicon name: XCH AW, reg16) (R80) -/
  | unimp93
  /-- 94 00: 94 unimplemented (silicon name: XCH AW, reg16) (R80) -/
  | unimp94
  /-- 95 00: 95 unimplemented (silicon name: XCH AW, reg16) (R80) -/
  | unimp95
  /-- 96 00: 96 unimplemented (silicon name: XCH AW, reg16) (R80) -/
  | unimp96
  /-- 97 00: 97 unimplemented (silicon name: XCH AW, reg16) (R80) -/
  | unimp97
  /-- 98 00: 98 unimplemented (silicon name: CVTBW) (R80) -/
  | unimp98
  /-- 99 00: 99 unimplemented (silicon name: CVTWL) (R80) -/
  | unimp99
  /-- 9B 00: 9B unimplemented (silicon name: POLL) (R80) -/
  | unimp9B
  /-- 9C 00: PUSH PSW (R164) -/
  | pushPsw
  /-- 9D 00: POP PSW (R165) -/
  | popPsw
  /-- 9E 00: 9E unimplemented (silicon name: MOV PSW, AH) (R80) -/
  | unimp9E
  /-- 9F 00: 9F unimplemented (silicon name: MOV AH, PSW) (R80) -/
  | unimp9F
  /-- A4 00: MOVBK byte (R181) -/
  | movbkByte
  /-- A5 00: MOVBK word (R181) -/
  | movbkWord
  /-- A6 00: CMPBK byte (unimplemented) (R187) -/
  | cmpbkByteUnimp
  /-- A7 00: CMPBK word (unimplemented) (R187) -/
  | cmpbkWordUnimp
  /-- A8 00: A8 unimplemented (silicon name: TEST AL, imm8) (R80) -/
  | unimpA8
  /-- A9 00: A9 unimplemented (silicon name: TEST AW, imm16) (R80) -/
  | unimpA9
  /-- AA 00: STM byte (R182) -/
  | stmByte
  /-- AB 00: STM word (R182) -/
  | stmWord
  /-- AC 00: LDM byte (R183) -/
  | ldmByte
  /-- AD 00: LDM word (R183) -/
  | ldmWord
  /-- AE 00: CMPM byte (unimplemented) (R188) -/
  | cmpmByteUnimp
  /-- AF 00: CMPM word (unimplemented) (R188) -/
  | cmpmWordUnimp
  /-- C2 00: C2 unimplemented (silicon name: RET pop-value) (R224) -/
  | unimpC2
  /-- C3 00: RET (near) (R205) -/
  | retNear
  /-- C4 00: C4 unimplemented (silicon name: MOV DS1, reg16, mem32) (R80) -/
  | unimpC4
  /-- C5 00: C5 unimplemented (silicon name: MOV DS0, reg16, mem32) (R80) -/
  | unimpC5
  /-- C8 00: C8 unimplemented (silicon name: PREPARE) (R166) -/
  | unimpC8
  /-- C9 00: C9 unimplemented (silicon name: DISPOSE) (R166) -/
  | unimpC9
  /-- CA 00: CA unimplemented (silicon name: RET far pop-value) (R224) -/
  | unimpCA
  /-- CB 00: RET (far) (R206) -/
  | retFar
  /-- CC 00: CC unimplemented (silicon name: BRK 3) (R224) -/
  | unimpCC
  /-- CD 00: CD unimplemented (silicon name: BRK imm8) (R224) -/
  | unimpCD
  /-- CE 00: CE unimplemented (silicon name: BRKV) (R224) -/
  | unimpCE
  /-- CF 00: CF unimplemented (silicon name: RETI) (R224) -/
  | unimpCF
  /-- D4 00: D4 unimplemented (silicon name: CVTBD) (R80) -/
  | unimpD4
  /-- D5 00: D5 unimplemented (silicon name: CVTDB) (R80) -/
  | unimpD5
  /-- D6 00: D6 unimplemented (silicon name: (undefined on the silicon)) (R80) -/
  | unimpD6
  /-- D7 00: D7 unimplemented (silicon name: TRANS) (R80) -/
  | unimpD7
  /-- D8 00: D8 unimplemented (silicon name: FPO1) (R80) -/
  | unimpD8
  /-- D9 00: D9 unimplemented (silicon name: FPO1) (R80) -/
  | unimpD9
  /-- DA 00: DA unimplemented (silicon name: FPO1) (R80) -/
  | unimpDA
  /-- DB 00: DB unimplemented (silicon name: FPO1) (R80) -/
  | unimpDB
  /-- DC 00: DC unimplemented (silicon name: FPO1) (R80) -/
  | unimpDC
  /-- DD 00: DD unimplemented (silicon name: FPO1) (R80) -/
  | unimpDD
  /-- DE 00: DE unimplemented (silicon name: FPO1) (R80) -/
  | unimpDE
  /-- DF 00: DF unimplemented (silicon name: FPO1) (R80) -/
  | unimpDF
  /-- E0 00: E0 unimplemented (silicon name: DBNZNE) (R224) -/
  | unimpE0
  /-- E1 00: E1 unimplemented (silicon name: DBNZE) (R224) -/
  | unimpE1
  /-- E2 00: E2 unimplemented (silicon name: DBNZ) (R224) -/
  | unimpE2
  /-- E3 00: E3 unimplemented (silicon name: BCWZ) (R224) -/
  | unimpE3
  /-- EC 00: IN AL, DW (R244) -/
  | inAlDw
  /-- ED 00: IN AW, DW (R245) -/
  | inAwDw
  /-- EE 00: OUT DW, AL (R246) -/
  | outDwAl
  /-- EF 00: OUT DW, AW (R247) -/
  | outDwAw
  /-- F0 00: F0 unimplemented (silicon name: BUSLOCK) (R80) -/
  | unimpF0
  /-- F1 00: F1 unimplemented (silicon name: (undefined on the silicon)) (R80) -/
  | unimpF1
  /-- F2 00: F2 unimplemented (silicon name: REPNE) (R190) -/
  | unimpF2
  /-- F3 6C: REP INM byte (R186) -/
  | repInmByte
  /-- F3 6D: REP INM word (R186) -/
  | repInmWord
  /-- F3 6E: REP OUTM byte (R186) -/
  | repOutmByte
  /-- F3 6F: REP OUTM word (R186) -/
  | repOutmWord
  /-- F3 A4: REP MOVBK byte (R186) -/
  | repMovbkByte
  /-- F3 A5: REP MOVBK word (R186) -/
  | repMovbkWord
  /-- F3 A6: REP CMPBK byte (unimplemented) (R187) -/
  | repCmpbkByteUnimp
  /-- F3 A7: REP CMPBK word (unimplemented) (R187) -/
  | repCmpbkWordUnimp
  /-- F3 AA: REP STM byte (R186) -/
  | repStmByte
  /-- F3 AB: REP STM word (R186) -/
  | repStmWord
  /-- F3 AC: REP LDM byte (R186) -/
  | repLdmByte
  /-- F3 AD: REP LDM word (R186) -/
  | repLdmWord
  /-- F3 AE: REP CMPM byte (unimplemented) (R188) -/
  | repCmpmByteUnimp
  /-- F3 AF: REP CMPM word (unimplemented) (R188) -/
  | repCmpmWordUnimp
  /-- F4 00: F4 unimplemented (silicon name: HALT) (R224) -/
  | unimpF4
  /-- F5 00: F5 unimplemented (silicon name: NOT1 CY) (R80) -/
  | unimpF5
  /-- F8 00: F8 unimplemented (silicon name: CLR1 CY) (R80) -/
  | unimpF8
  /-- F9 00: F9 unimplemented (silicon name: SET1 CY) (R80) -/
  | unimpF9
  /-- FA 00: FA unimplemented (silicon name: DI) (R80) -/
  | unimpFA
  /-- FB 00: FB unimplemented (silicon name: EI) (R80) -/
  | unimpFB
  /-- FC 00: FC unimplemented (silicon name: CLR1 DIR) (R80) -/
  | unimpFC
  /-- FD 00: FD unimplemented (silicon name: SET1 DIR) (R80) -/
  | unimpFD
  /-- FE 00: FE unimplemented (silicon name: group INC/DEC r/m8) (R80) -/
  | unimpFE
  /-- FF 00: FF unimplemented (silicon name: group INC/DEC/CALL/BR/PUSH r/m16) (R80) -/
  | unimpFF
  deriving DecidableEq, Repr

end Sys2Proof
end

