-- ==== Sys2Proof/Config.lean ====
section
/-! DEFINITION. What an implementation fixes: the sizes of 00_scope.md R5, the place of the extended-addressing flag
(R6), and the open parameter CYCLES (R6, 70_reset_and_hazards.md R345) as uninterpreted constants. -/

namespace Sys2Proof

/-- The open parameters XA_PORT and XA_MASK of 00_scope.md R6. A value of this type is a field of `Machine.State` that no
step changes, so that every statement about all states holds for every place of the flag (notes/assumptions/2.md). -/
structure Config where
  xaPort : Word
  xaMask : Byte
  deriving DecidableEq, Repr

namespace Config

/-- "byte with exactly one bit set" (00_scope.md R6). -/
def wf (c : Config) : Bool :=
  [0x01, 0x02, 0x04, 0x08, 0x10, 0x20, 0x40, 0x80].contains c.xaMask

/-- PRESUMED, log 2: the defaults 00_scope.md R6 suggests from general knowledge. -/
def default : Config := { xaPort := 0xFF80, xaMask := 0x01 }

/-- Bytes of conventional memory (R5). -/
def memSize : Nat := 0x100000

/-- Bytes of extended memory (R5). -/
def extSize : Nat := 0xA0000

/-- Bytes of port space (R5). -/
def portSize : Nat := 0x10000

/-- Bytes of the internal array (R5). -/
def internalSize : Nat := 0x100

/-- Free value (log 3): the part of CYCLES that R345 leaves open. Its arguments are those of R345: the opcode, the ModRM byte
if any (log 4), the number of REP repetitions; the parities are the argument of `oddPenalty`. -/
opaque baseCycles : Byte → Option Byte → Nat → Nat

/-- Free value (log 3): how much more than one cycle the word operand with this number costs at an odd address (R345 (b)). -/
opaque oddPenalty : Byte → Option Byte → Nat → Nat → Nat

/-- Free value (log 3): whether the 23 cycles of R345 (c) cover six steps or five (90_conflicts.md C3). -/
opaque scenarioHasSixSteps : Bool

end Config

end Sys2Proof
end

