-- ==== Sys2Proof/Machine/Bits.lean ====
section
/-! DEFINITION. Bit-field, byte-order and sign-extension helpers: the notation of 00_scope.md R7 and the byte order of
20_memory.md R40. -/

namespace Sys2Proof.Machine

/-- `v[7:0]`: the L half of a word (10_state.md R11). -/
def loByte (v : Word) : Byte := v.extractLsb' 0 8

/-- `v[15:8]`: the H half of a word (10_state.md R11). -/
def hiByte (v : Word) : Byte := v.extractLsb' 8 8

/-- `hi ++ lo` (00_scope.md R7). -/
def wordOf (hi lo : Byte) : Word := hi ++ lo

/-- `sext_16` of a byte (00_scope.md R7). -/
def sext16 (b : Byte) : Word := b.signExtend 16

/-- `zext_16` of a byte (00_scope.md R7). -/
def zext16 (b : Byte) : Word := b.setWidth 16

end Sys2Proof.Machine
end

