-- ==== Sys2Proof/WellFormed.lean ====
section
/-! DEFINITION. Which terms of `Instr` are instructions: the terms that some bytes decode to. Every check restates the mask
and match of a row of spec/opcode_table.json or the one hole in the ModRM table (30_encoding.md R73, R84). -/

namespace Sys2Proof

end Sys2Proof

/-- `v & mask == pattern`: how a table row fixes part of a field (30_encoding.md R84). -/
def BitVec.fits {w : Nat} (v mask pattern : BitVec w) : Bool :=
  v &&& mask == pattern

namespace Sys2Proof

/-- Mode 0 with memory field 6 is the direct address, so base BP has no form without displacement (30_encoding.md R73). -/
def RM.wf {ρ : Type} : RM ρ → Bool
  | .mem b => b != .bp
  | .reg _ | .direct _ | .mem8 _ _ | .mem16 _ _ => true

/-- The well-formed instructions. -/
def WellFormed : Instr → Bool
  | .addRm8Reg8 rm _ | .addRm16Reg16 rm _ | .addReg8Rm8 _ rm | .addReg16Rm16 _ rm | .orRm8Reg8 rm _
    | .orRm16Reg16 rm _ | .orReg8Rm8 _ rm | .orReg16Rm16 _ rm | .andRm8Reg8 rm _ | .andRm16Reg16 rm _
    | .andReg8Rm8 _ rm | .andReg16Rm16 _ rm | .subRm8Reg8 rm _ | .subRm16Reg16 rm _ | .subReg8Rm8 _ rm
    | .subReg16Rm16 _ rm | .xorRm8Reg8 rm _ | .xorRm16Reg16 rm _ | .xorReg8Rm8 _ rm | .xorReg16Rm16 _ rm
    | .cmpRm8Reg8 rm _ | .cmpRm16Reg16 rm _ | .cmpReg8Rm8 _ rm | .cmpReg16Rm16 _ rm | .addRm8Imm8 rm _
    | .orRm8Imm8 rm _ | .addcRm8Imm8Unimp rm | .subcRm8Imm8Unimp rm | .andRm8Imm8 rm _ | .subRm8Imm8 rm _
    | .xorRm8Imm8 rm _ | .cmpRm8Imm8 rm _ | .addRm16Imm16 rm _ | .orRm16Imm16 rm _ | .addcRm16Imm16Unimp rm
    | .subcRm16Imm16Unimp rm | .andRm16Imm16 rm _ | .subRm16Imm16 rm _ | .xorRm16Imm16 rm _ | .cmpRm16Imm16 rm _
    | .addRm16Simm8 rm _ | .orRm16Simm8 rm _ | .addcRm16Simm8Unimp rm | .subcRm16Simm8Unimp rm | .andRm16Simm8 rm _
    | .subRm16Simm8 rm _ | .xorRm16Simm8 rm _ | .cmpRm16Simm8 rm _ | .movRm8Reg8 rm _ | .movRm16Reg16 rm _
    | .movReg8Rm8 _ rm | .movReg16Rm16 _ rm | .movRm16Sreg rm _ | .movDs1Rm16 rm | .movPsRm16Undef rm
    | .rolRm8Imm8 rm _ | .rorRm8Imm8 rm _ | .rolcRm8Imm8 rm _ | .rorcRm8Imm8 rm _ | .shlRm8Imm8 rm _
    | .shrRm8Imm8 rm _ | .shiftC0Undef rm | .shraRm8Imm8 rm _ | .rolRm16Imm8 rm _ | .rorRm16Imm8 rm _
    | .rolcRm16Imm8 rm _ | .rorcRm16Imm8 rm _ | .shlRm16Imm8 rm _ | .shrRm16Imm8 rm _ | .shiftC1Undef rm
    | .shraRm16Imm8 rm _ | .movRm8Imm8 rm _ | .movC6Undef1 rm | .movRm16Imm16 rm _ | .movC7Undef1 rm
    | .rolRm8One rm | .rorRm8One rm | .rolcRm8One rm | .rorcRm8One rm | .shlRm8One rm | .shrRm8One rm
    | .shiftD0Undef rm | .shraRm8One rm | .rolRm16One rm | .rorRm16One rm | .rolcRm16One rm | .rorcRm16One rm
    | .shlRm16One rm | .shrRm16One rm | .shiftD1Undef rm | .shraRm16One rm | .rolRm8Cl rm | .rorRm8Cl rm
    | .rolcRm8Cl rm | .rorcRm8Cl rm | .shlRm8Cl rm | .shrRm8Cl rm | .shiftD2Undef rm | .shraRm8Cl rm
    | .rolRm16Cl rm | .rorRm16Cl rm | .rolcRm16Cl rm | .rorcRm16Cl rm | .shlRm16Cl rm | .shrRm16Cl rm
    | .shiftD3Undef rm | .shraRm16Cl rm | .divuRm8 rm | .divRm8 rm | .divuRm16 rm | .divRm16 rm => rm.wf
  | .escUnimp00 sub => sub.fits 0x80 0x00
  | .escUnimp80 sub => sub.fits 0xC0 0x80
  | .escUnimpC0 sub => sub.fits 0xE0 0xC0
  | .escUnimpE2 sub => sub.fits 0xFE 0xE2
  | .escUnimpE4 sub => sub.fits 0xFC 0xE4
  | .escUnimpE8 sub => sub.fits 0xF8 0xE8
  | .escUnimpF2 sub => sub.fits 0xFE 0xF2
  | .escUnimpF4 sub => sub.fits 0xFC 0xF4
  | .escUnimpF8 sub => sub.fits 0xF8 0xF8
  | .movRm16SregUndef rm code | .movSregRm16Undef rm code | .movC6Undef4to7 rm code | .movC7Undef4to7 rm code =>
      rm.wf && code.fits 4 4
  | .movSsDs0Rm16 dst rm => (dst == .ss || dst == .ds0) && rm.wf
  | .movC6Undef2to3 rm code | .movC7Undef2to3 rm code => rm.wf && code.fits 6 2
  | .repUnimp00 follower => follower.fits 0xC0 0x00
  | .repUnimp40 follower => follower.fits 0xE0 0x40
  | .repUnimp60 follower => follower.fits 0xF8 0x60
  | .repUnimp68 follower => follower.fits 0xFC 0x68
  | .repUnimp70 follower => follower.fits 0xF0 0x70
  | .repUnimp80 follower => follower.fits 0xE0 0x80
  | .repUnimpA0 follower => follower.fits 0xFC 0xA0
  | .repUnimpA8 follower => follower.fits 0xFE 0xA8
  | .repUnimpB0 follower => follower.fits 0xF0 0xB0
  | .repUnimpC0 follower => follower.fits 0xC0 0xC0
  | .groupF6Unimp0to3 rm code | .groupF7Unimp0to3 rm code => rm.wf && code.fits 4 0
  | .groupF6Unimp4to5 rm code | .groupF7Unimp4to5 rm code => rm.wf && code.fits 6 4
  | .addAlImm8 _ | .addAwImm16 _ | .pushDs1 | .popDs1 | .orAlImm8 _ | .orAwImm16 _ | .pushPs | .brkxa _
    | .escUnimpE1 | .retxa _ | .escUnimpF1 | .unimp10 | .unimp11 | .unimp12 | .unimp13 | .unimp14 | .unimp15
    | .pushSs | .popSs | .unimp18 | .unimp19 | .unimp1A | .unimp1B | .unimp1C | .unimp1D | .pushDs0 | .popDs0
    | .andAlImm8 _ | .andAwImm16 _ | .prefixDs1 | .unimp27 | .subAlImm8 _ | .subAwImm16 _ | .prefixPs | .unimp2F
    | .xorAlImm8 _ | .xorAwImm16 _ | .prefixSs | .unimp37 | .cmpAlImm8 _ | .cmpAwImm16 _ | .prefixDs0 | .unimp3F
    | .incReg16 _ | .decReg16 _ | .pushReg16 _ | .popReg16 _ | .unimp60 | .unimp61 | .unimp62 | .unimp63 | .unimp64
    | .unimp65 | .unimp66 | .unimp67 | .unimp68 | .unimp69 | .unimp6A | .unimp6B | .inmByte | .inmWord | .outmByte
    | .outmWord | .bv _ | .bnv _ | .bc _ | .bnc _ | .be _ | .bne _ | .bnh _ | .bh _ | .bn _ | .bp _ | .bpe _
    | .bpo _ | .blt _ | .bge _ | .ble _ | .bgt _ | .unimp82 | .unimp84 | .unimp85 | .unimp86 | .unimp87 | .unimp8D
    | .unimp8F | .unimp90 | .unimp91 | .unimp92 | .unimp93 | .unimp94 | .unimp95 | .unimp96 | .unimp97 | .unimp98
    | .unimp99 | .callFar _ _ | .unimp9B | .pushPsw | .popPsw | .unimp9E | .unimp9F | .movAlDirect _
    | .movAwDirect _ | .movDirectAl _ | .movDirectAw _ | .movbkByte | .movbkWord | .cmpbkByteUnimp
    | .cmpbkWordUnimp | .unimpA8 | .unimpA9 | .stmByte | .stmWord | .ldmByte | .ldmWord | .cmpmByteUnimp
    | .cmpmWordUnimp | .movReg8Imm8 _ _ | .movReg16Imm16 _ _ | .unimpC2 | .retNear | .unimpC4 | .unimpC5 | .unimpC8
    | .unimpC9 | .unimpCA | .retFar | .unimpCC | .unimpCD | .unimpCE | .unimpCF | .unimpD4 | .unimpD5 | .unimpD6
    | .unimpD7 | .unimpD8 | .unimpD9 | .unimpDA | .unimpDB | .unimpDC | .unimpDD | .unimpDE | .unimpDF | .unimpE0
    | .unimpE1 | .unimpE2 | .unimpE3 | .inAlImm8 _ | .inAwImm8 _ | .outImm8Al _ | .outImm8Aw _ | .callNear _
    | .brNear _ | .brFar _ _ | .brShort _ | .inAlDw | .inAwDw | .outDwAl | .outDwAw | .unimpF0 | .unimpF1
    | .unimpF2 | .repInmByte | .repInmWord | .repOutmByte | .repOutmWord | .repMovbkByte | .repMovbkWord
    | .repCmpbkByteUnimp | .repCmpbkWordUnimp | .repStmByte | .repStmWord | .repLdmByte | .repLdmWord
    | .repCmpmByteUnimp | .repCmpmWordUnimp | .unimpF4 | .unimpF5 | .unimpF8 | .unimpF9 | .unimpFA | .unimpFB
    | .unimpFC | .unimpFD | .unimpFE | .unimpFF => true

end Sys2Proof
end

