-- ==== Sys2Proof/Decode.lean ====
section
/-! DEFINITION. From bytes to instructions and back, written from 30_encoding.md R70 to R81 and the rows of
spec/opcode_table.json. `decode` is total: it refuses only a byte list that ends before the instruction does, by name.
A fault-only row consumes the bytes its rule fetches before the raise (R80, R301, R304). -/

namespace Sys2Proof

open Machine (wordOf loByte hiByte)

/-! ## Register codes (10_state.md R12, R17; 30_encoding.md R73) -/

/-- `reg8[c]`. -/
def Reg8.ofCode (c : BitVec 3) : Reg8 :=
  match c.toNat with
  | 0 => .al | 1 => .cl | 2 => .dl | 3 => .bl | 4 => .ah | 5 => .ch | 6 => .dh | _ => .bh

def Reg8.code : Reg8 → BitVec 3
  | .al => 0 | .cl => 1 | .dl => 2 | .bl => 3 | .ah => 4 | .ch => 5 | .dh => 6 | .bh => 7

/-- `reg16[c]`. -/
def Reg16.ofCode (c : BitVec 3) : Reg16 :=
  match c.toNat with
  | 0 => .aw | 1 => .cw | 2 => .dw | 3 => .bw | 4 => .sp | 5 => .bp | 6 => .ix | _ => .iy

def Reg16.code : Reg16 → BitVec 3
  | .aw => 0 | .cw => 1 | .dw => 2 | .bw => 3 | .sp => 4 | .bp => 5 | .ix => 6 | .iy => 7

/-- `sreg[c]` for `c` in 0 to 3; the low two bits of a register field whose high bit is clear. -/
def SReg.ofCode (c : BitVec 3) : SReg :=
  match c.toNat with
  | 0 => .ds1 | 1 => .ps | 2 => .ss | _ => .ds0

def SReg.code : SReg → BitVec 3
  | .ds1 => 0 | .ps => 1 | .ss => 2 | .ds0 => 3

/-- The base combination of a memory field (R73). -/
def Base.ofCode (c : BitVec 3) : Base :=
  match c.toNat with
  | 0 => .bwIx | 1 => .bwIy | 2 => .bpIx | 3 => .bpIy | 4 => .ix | 5 => .iy | 6 => .bp | _ => .bw

def Base.code : Base → BitVec 3
  | .bwIx => 0 | .bwIy => 1 | .bpIx => 2 | .bpIy => 3 | .ix => 4 | .iy => 5 | .bp => 6 | .bw => 7

/-! ## The ModRM byte (30_encoding.md R71) -/

/-- `mod = modrm[7:6]`. -/
def modField (m : Byte) : BitVec 2 := m.extractLsb' 6 2

/-- `reg = modrm[5:3]`. -/
def regField (m : Byte) : BitVec 3 := m.extractLsb' 3 3

/-- `mem = modrm[2:0]`. -/
def memField (m : Byte) : BitVec 3 := m.extractLsb' 0 3

/-- `mod ++ reg ++ mem`. -/
def packModrm (mod : BitVec 2) (reg mem : BitVec 3) : Byte := mod ++ reg ++ mem

/-- The ModRM byte of an operand with a register field. -/
def RM.modrm {ρ : Type} (code : ρ → BitVec 3) (reg : BitVec 3) : RM ρ → Byte
  | .reg r => packModrm 3 reg (code r)
  | .mem b => packModrm 0 reg b.code
  | .direct _ => packModrm 0 reg 6
  | .mem8 b _ => packModrm 1 reg b.code
  | .mem16 b _ => packModrm 2 reg b.code

/-- The displacement bytes of an operand, low byte first (R73, 20_memory.md R40). -/
def RM.dispBytes {ρ : Type} : RM ρ → List Byte
  | .reg _ | .mem _ => []
  | .direct a => [loByte a, hiByte a]
  | .mem8 _ d => [d]
  | .mem16 _ d => [loByte d, hiByte d]

/-- The ModRM byte of a byte operand. -/
abbrev RM.modrm8 (reg : BitVec 3) (x : RM8) : Byte := RM.modrm Reg8.code reg x

/-- The ModRM byte of a word operand. -/
abbrev RM.modrm16 (reg : BitVec 3) (x : RM16) : Byte := RM.modrm Reg16.code reg x

/-! ## Reading an instruction -/

/-- Why the decoder refuses: the bytes end before the instruction does. No byte value is refused (R80). -/
inductive DecodeError where
  | truncated
  deriving DecidableEq, Repr

/-- The instruction and the bytes after it, or a refusal by name. -/
abbrev Decoded := Except DecodeError (Instr × List Byte)

/-- `Fetch8()` of the decoder. -/
def takeByte (bs : List Byte) (k : Byte → List Byte → Decoded) : Decoded :=
  match bs with
  | b :: rest => k b rest
  | [] => .error .truncated

/-- `Fetch16()` of the decoder, low byte first. -/
def takeWord (bs : List Byte) (k : Word → List Byte → Decoded) : Decoded :=
  takeByte bs fun lo bs => takeByte bs fun hi bs => k (wordOf hi lo) bs

/-- `ResolveRM` of the decoder (R74): the ModRM byte and the displacement R73 calls for; `k` receives the register field
and the operand. -/
def takeRM {ρ : Type} (ofCode : BitVec 3 → ρ) (bs : List Byte) (k : BitVec 3 → RM ρ → List Byte → Decoded) : Decoded :=
  takeByte bs fun m bs =>
    match (modField m).toNat with
    | 0 => if memField m = 6 then takeWord bs fun a bs => k (regField m) (.direct a) bs
           else k (regField m) (.mem (Base.ofCode (memField m))) bs
    | 1 => takeByte bs fun d bs => k (regField m) (.mem8 (Base.ofCode (memField m)) d) bs
    | 2 => takeWord bs fun d bs => k (regField m) (.mem16 (Base.ofCode (memField m)) d) bs
    | _ => k (regField m) (.reg (ofCode (memField m))) bs

def takeRM8 (bs : List Byte) (k : BitVec 3 → RM8 → List Byte → Decoded) : Decoded := takeRM Reg8.ofCode bs k

def takeRM16 (bs : List Byte) (k : BitVec 3 → RM16 → List Byte → Decoded) : Decoded := takeRM Reg16.ofCode bs k

/-! One reader per instruction format of R70; `c` is the constructor of the row. -/

/-- NONE, PREFIX, and every row that raises on its first byte. -/
def plain (c : Instr) (bs : List Byte) : Decoded := .ok (c, bs)

/-- ACC_I8, REL8, PORT. -/
def imm8 (c : Byte → Instr) (bs : List Byte) : Decoded := takeByte bs fun v bs => .ok (c v, bs)

/-- ACC_I16, REL16, DMEM. -/
def imm16 (c : Word → Instr) (bs : List Byte) : Decoded := takeWord bs fun v bs => .ok (c v, bs)

/-- FAR: offset, then segment (R75). -/
def far (c : Word → Word → Instr) (bs : List Byte) : Decoded :=
  takeWord bs fun off bs => takeWord bs fun seg bs => .ok (c off seg, bs)

/-- RM with the r/m operand first, byte width. -/
def rmReg8 (c : RM8 → Reg8 → Instr) (bs : List Byte) : Decoded :=
  takeRM8 bs fun reg rm bs => .ok (c rm (Reg8.ofCode reg), bs)

/-- RM with the r/m operand first, word width. -/
def rmReg16 (c : RM16 → Reg16 → Instr) (bs : List Byte) : Decoded :=
  takeRM16 bs fun reg rm bs => .ok (c rm (Reg16.ofCode reg), bs)

/-- RM with the register first, byte width. -/
def regRm8 (c : Reg8 → RM8 → Instr) (bs : List Byte) : Decoded :=
  takeRM8 bs fun reg rm bs => .ok (c (Reg8.ofCode reg) rm, bs)

/-- RM with the register first, word width. -/
def regRm16 (c : Reg16 → RM16 → Instr) (bs : List Byte) : Decoded :=
  takeRM16 bs fun reg rm bs => .ok (c (Reg16.ofCode reg) rm, bs)

/-- RM_I8 after `ResolveRM`. -/
def rmImm8 {ρ : Type} (c : RM ρ → Byte → Instr) (rm : RM ρ) (bs : List Byte) : Decoded :=
  takeByte bs fun v bs => .ok (c rm v, bs)

/-- RM_I16 after `ResolveRM`. -/
def rmImm16 {ρ : Type} (c : RM ρ → Word → Instr) (rm : RM ρ) (bs : List Byte) : Decoded :=
  takeWord bs fun v bs => .ok (c rm v, bs)

/-- REG: the register code is in the opcode's low three bits (R75). -/
def opReg16 (c : Reg16 → Instr) (op : Byte) (bs : List Byte) : Decoded := .ok (c (Reg16.ofCode (memField op)), bs)

/-! The group decoders of R78: the ModRM register field selects the row after `ResolveRM` has returned. -/

/-- The byte after 0F is a whole sub-opcode (R78 (e), 48_extended_addressing.md R270, R273). -/
def decodeEsc (bs : List Byte) : Decoded :=
  takeByte bs fun sub bs =>
    if sub.fits 0x80 0x00 then .ok (.escUnimp00 sub, bs)
    else if sub.fits 0xC0 0x80 then .ok (.escUnimp80 sub, bs)
    else if sub.fits 0xE0 0xC0 then .ok (.escUnimpC0 sub, bs)
    else if sub = 0xE0 then imm8 .brkxa bs
    else if sub = 0xE1 then .ok (.escUnimpE1, bs)
    else if sub.fits 0xFE 0xE2 then .ok (.escUnimpE2 sub, bs)
    else if sub.fits 0xFC 0xE4 then .ok (.escUnimpE4 sub, bs)
    else if sub.fits 0xF8 0xE8 then .ok (.escUnimpE8 sub, bs)
    else if sub = 0xF0 then imm8 .retxa bs
    else if sub = 0xF1 then .ok (.escUnimpF1, bs)
    else if sub.fits 0xFE 0xF2 then .ok (.escUnimpF2 sub, bs)
    else if sub.fits 0xFC 0xF4 then .ok (.escUnimpF4 sub, bs)
    else .ok (.escUnimpF8 sub, bs)

/-- 80 -/
def decodeGroup80 (bs : List Byte) : Decoded :=
  takeRM8 bs fun reg rm bs =>
    match reg.toNat with
    | 0 => rmImm8 .addRm8Imm8 rm bs
    | 1 => rmImm8 .orRm8Imm8 rm bs
    | 2 => .ok (.addcRm8Imm8Unimp rm, bs)
    | 3 => .ok (.subcRm8Imm8Unimp rm, bs)
    | 4 => rmImm8 .andRm8Imm8 rm bs
    | 5 => rmImm8 .subRm8Imm8 rm bs
    | 6 => rmImm8 .xorRm8Imm8 rm bs
    | _ => rmImm8 .cmpRm8Imm8 rm bs

/-- 81 -/
def decodeGroup81 (bs : List Byte) : Decoded :=
  takeRM16 bs fun reg rm bs =>
    match reg.toNat with
    | 0 => rmImm16 .addRm16Imm16 rm bs
    | 1 => rmImm16 .orRm16Imm16 rm bs
    | 2 => .ok (.addcRm16Imm16Unimp rm, bs)
    | 3 => .ok (.subcRm16Imm16Unimp rm, bs)
    | 4 => rmImm16 .andRm16Imm16 rm bs
    | 5 => rmImm16 .subRm16Imm16 rm bs
    | 6 => rmImm16 .xorRm16Imm16 rm bs
    | _ => rmImm16 .cmpRm16Imm16 rm bs

/-- 83 -/
def decodeGroup83 (bs : List Byte) : Decoded :=
  takeRM16 bs fun reg rm bs =>
    match reg.toNat with
    | 0 => rmImm8 .addRm16Simm8 rm bs
    | 1 => rmImm8 .orRm16Simm8 rm bs
    | 2 => .ok (.addcRm16Simm8Unimp rm, bs)
    | 3 => .ok (.subcRm16Simm8Unimp rm, bs)
    | 4 => rmImm8 .andRm16Simm8 rm bs
    | 5 => rmImm8 .subRm16Simm8 rm bs
    | 6 => rmImm8 .xorRm16Simm8 rm bs
    | _ => rmImm8 .cmpRm16Simm8 rm bs

/-- 8C -/
def decodeGroup8C (bs : List Byte) : Decoded :=
  takeRM16 bs fun reg rm bs =>
    match reg.toNat with
    | 0 | 1 | 2 | 3 => .ok (.movRm16Sreg rm (SReg.ofCode reg), bs)
    | _ => .ok (.movRm16SregUndef rm reg, bs)

/-- 8E -/
def decodeGroup8E (bs : List Byte) : Decoded :=
  takeRM16 bs fun reg rm bs =>
    match reg.toNat with
    | 0 => .ok (.movDs1Rm16 rm, bs)
    | 1 => .ok (.movPsRm16Undef rm, bs)
    | 2 | 3 => .ok (.movSsDs0Rm16 (SReg.ofCode reg) rm, bs)
    | _ => .ok (.movSregRm16Undef rm reg, bs)

/-- C0 -/
def decodeGroupC0 (bs : List Byte) : Decoded :=
  takeRM8 bs fun reg rm bs =>
    match reg.toNat with
    | 0 => rmImm8 .rolRm8Imm8 rm bs
    | 1 => rmImm8 .rorRm8Imm8 rm bs
    | 2 => rmImm8 .rolcRm8Imm8 rm bs
    | 3 => rmImm8 .rorcRm8Imm8 rm bs
    | 4 => rmImm8 .shlRm8Imm8 rm bs
    | 5 => rmImm8 .shrRm8Imm8 rm bs
    | 6 => .ok (.shiftC0Undef rm, bs)
    | _ => rmImm8 .shraRm8Imm8 rm bs

/-- C1 -/
def decodeGroupC1 (bs : List Byte) : Decoded :=
  takeRM16 bs fun reg rm bs =>
    match reg.toNat with
    | 0 => rmImm8 .rolRm16Imm8 rm bs
    | 1 => rmImm8 .rorRm16Imm8 rm bs
    | 2 => rmImm8 .rolcRm16Imm8 rm bs
    | 3 => rmImm8 .rorcRm16Imm8 rm bs
    | 4 => rmImm8 .shlRm16Imm8 rm bs
    | 5 => rmImm8 .shrRm16Imm8 rm bs
    | 6 => .ok (.shiftC1Undef rm, bs)
    | _ => rmImm8 .shraRm16Imm8 rm bs

/-- C6 -/
def decodeGroupC6 (bs : List Byte) : Decoded :=
  takeRM8 bs fun reg rm bs =>
    match reg.toNat with
    | 0 => rmImm8 .movRm8Imm8 rm bs
    | 1 => .ok (.movC6Undef1 rm, bs)
    | 2 | 3 => .ok (.movC6Undef2to3 rm reg, bs)
    | _ => .ok (.movC6Undef4to7 rm reg, bs)

/-- C7 -/
def decodeGroupC7 (bs : List Byte) : Decoded :=
  takeRM16 bs fun reg rm bs =>
    match reg.toNat with
    | 0 => rmImm16 .movRm16Imm16 rm bs
    | 1 => .ok (.movC7Undef1 rm, bs)
    | 2 | 3 => .ok (.movC7Undef2to3 rm reg, bs)
    | _ => .ok (.movC7Undef4to7 rm reg, bs)

/-- D0 -/
def decodeGroupD0 (bs : List Byte) : Decoded :=
  takeRM8 bs fun reg rm bs =>
    match reg.toNat with
    | 0 => .ok (.rolRm8One rm, bs)
    | 1 => .ok (.rorRm8One rm, bs)
    | 2 => .ok (.rolcRm8One rm, bs)
    | 3 => .ok (.rorcRm8One rm, bs)
    | 4 => .ok (.shlRm8One rm, bs)
    | 5 => .ok (.shrRm8One rm, bs)
    | 6 => .ok (.shiftD0Undef rm, bs)
    | _ => .ok (.shraRm8One rm, bs)

/-- D1 -/
def decodeGroupD1 (bs : List Byte) : Decoded :=
  takeRM16 bs fun reg rm bs =>
    match reg.toNat with
    | 0 => .ok (.rolRm16One rm, bs)
    | 1 => .ok (.rorRm16One rm, bs)
    | 2 => .ok (.rolcRm16One rm, bs)
    | 3 => .ok (.rorcRm16One rm, bs)
    | 4 => .ok (.shlRm16One rm, bs)
    | 5 => .ok (.shrRm16One rm, bs)
    | 6 => .ok (.shiftD1Undef rm, bs)
    | _ => .ok (.shraRm16One rm, bs)

/-- D2 -/
def decodeGroupD2 (bs : List Byte) : Decoded :=
  takeRM8 bs fun reg rm bs =>
    match reg.toNat with
    | 0 => .ok (.rolRm8Cl rm, bs)
    | 1 => .ok (.rorRm8Cl rm, bs)
    | 2 => .ok (.rolcRm8Cl rm, bs)
    | 3 => .ok (.rorcRm8Cl rm, bs)
    | 4 => .ok (.shlRm8Cl rm, bs)
    | 5 => .ok (.shrRm8Cl rm, bs)
    | 6 => .ok (.shiftD2Undef rm, bs)
    | _ => .ok (.shraRm8Cl rm, bs)

/-- D3 -/
def decodeGroupD3 (bs : List Byte) : Decoded :=
  takeRM16 bs fun reg rm bs =>
    match reg.toNat with
    | 0 => .ok (.rolRm16Cl rm, bs)
    | 1 => .ok (.rorRm16Cl rm, bs)
    | 2 => .ok (.rolcRm16Cl rm, bs)
    | 3 => .ok (.rorcRm16Cl rm, bs)
    | 4 => .ok (.shlRm16Cl rm, bs)
    | 5 => .ok (.shrRm16Cl rm, bs)
    | 6 => .ok (.shiftD3Undef rm, bs)
    | _ => .ok (.shraRm16Cl rm, bs)

/-- The byte after F3 is the repeated opcode (44_block_and_rep.md R186). -/
def decodeRep (bs : List Byte) : Decoded :=
  takeByte bs fun sub bs =>
    if sub.fits 0xC0 0x00 then .ok (.repUnimp00 sub, bs)
    else if sub.fits 0xE0 0x40 then .ok (.repUnimp40 sub, bs)
    else if sub.fits 0xF8 0x60 then .ok (.repUnimp60 sub, bs)
    else if sub.fits 0xFC 0x68 then .ok (.repUnimp68 sub, bs)
    else if sub = 0x6C then .ok (.repInmByte, bs)
    else if sub = 0x6D then .ok (.repInmWord, bs)
    else if sub = 0x6E then .ok (.repOutmByte, bs)
    else if sub = 0x6F then .ok (.repOutmWord, bs)
    else if sub.fits 0xF0 0x70 then .ok (.repUnimp70 sub, bs)
    else if sub.fits 0xE0 0x80 then .ok (.repUnimp80 sub, bs)
    else if sub.fits 0xFC 0xA0 then .ok (.repUnimpA0 sub, bs)
    else if sub = 0xA4 then .ok (.repMovbkByte, bs)
    else if sub = 0xA5 then .ok (.repMovbkWord, bs)
    else if sub = 0xA6 then .ok (.repCmpbkByteUnimp, bs)
    else if sub = 0xA7 then .ok (.repCmpbkWordUnimp, bs)
    else if sub.fits 0xFE 0xA8 then .ok (.repUnimpA8 sub, bs)
    else if sub = 0xAA then .ok (.repStmByte, bs)
    else if sub = 0xAB then .ok (.repStmWord, bs)
    else if sub = 0xAC then .ok (.repLdmByte, bs)
    else if sub = 0xAD then .ok (.repLdmWord, bs)
    else if sub = 0xAE then .ok (.repCmpmByteUnimp, bs)
    else if sub = 0xAF then .ok (.repCmpmWordUnimp, bs)
    else if sub.fits 0xF0 0xB0 then .ok (.repUnimpB0 sub, bs)
    else .ok (.repUnimpC0 sub, bs)

/-- F6 -/
def decodeGroupF6 (bs : List Byte) : Decoded :=
  takeRM8 bs fun reg rm bs =>
    match reg.toNat with
    | 0 | 1 | 2 | 3 => .ok (.groupF6Unimp0to3 rm reg, bs)
    | 4 | 5 => .ok (.groupF6Unimp4to5 rm reg, bs)
    | 6 => .ok (.divuRm8 rm, bs)
    | _ => .ok (.divRm8 rm, bs)

/-- F7 -/
def decodeGroupF7 (bs : List Byte) : Decoded :=
  takeRM16 bs fun reg rm bs =>
    match reg.toNat with
    | 0 | 1 | 2 | 3 => .ok (.groupF7Unimp0to3 rm reg, bs)
    | 4 | 5 => .ok (.groupF7Unimp4to5 rm reg, bs)
    | 6 => .ok (.divuRm16 rm, bs)
    | _ => .ok (.divRm16 rm, bs)

/-! ## The opcode map (R77, R80), one function per high nibble of the first byte -/

/-- 00 to 0F -/
def decodeRow0 (op : Byte) (bs : List Byte) : Decoded :=
  match op.toNat % 16 with
  | 0 => rmReg8 .addRm8Reg8 bs
  | 1 => rmReg16 .addRm16Reg16 bs
  | 2 => regRm8 .addReg8Rm8 bs
  | 3 => regRm16 .addReg16Rm16 bs
  | 4 => imm8 .addAlImm8 bs
  | 5 => imm16 .addAwImm16 bs
  | 6 => plain .pushDs1 bs
  | 7 => plain .popDs1 bs
  | 8 => rmReg8 .orRm8Reg8 bs
  | 9 => rmReg16 .orRm16Reg16 bs
  | 10 => regRm8 .orReg8Rm8 bs
  | 11 => regRm16 .orReg16Rm16 bs
  | 12 => imm8 .orAlImm8 bs
  | 13 => imm16 .orAwImm16 bs
  | 14 => plain .pushPs bs
  | _ => decodeEsc bs

/-- 10 to 1F -/
def decodeRow1 (op : Byte) (bs : List Byte) : Decoded :=
  match op.toNat % 16 with
  | 0 => plain .unimp10 bs
  | 1 => plain .unimp11 bs
  | 2 => plain .unimp12 bs
  | 3 => plain .unimp13 bs
  | 4 => plain .unimp14 bs
  | 5 => plain .unimp15 bs
  | 6 => plain .pushSs bs
  | 7 => plain .popSs bs
  | 8 => plain .unimp18 bs
  | 9 => plain .unimp19 bs
  | 10 => plain .unimp1A bs
  | 11 => plain .unimp1B bs
  | 12 => plain .unimp1C bs
  | 13 => plain .unimp1D bs
  | 14 => plain .pushDs0 bs
  | _ => plain .popDs0 bs

/-- 20 to 2F -/
def decodeRow2 (op : Byte) (bs : List Byte) : Decoded :=
  match op.toNat % 16 with
  | 0 => rmReg8 .andRm8Reg8 bs
  | 1 => rmReg16 .andRm16Reg16 bs
  | 2 => regRm8 .andReg8Rm8 bs
  | 3 => regRm16 .andReg16Rm16 bs
  | 4 => imm8 .andAlImm8 bs
  | 5 => imm16 .andAwImm16 bs
  | 6 => plain .prefixDs1 bs
  | 7 => plain .unimp27 bs
  | 8 => rmReg8 .subRm8Reg8 bs
  | 9 => rmReg16 .subRm16Reg16 bs
  | 10 => regRm8 .subReg8Rm8 bs
  | 11 => regRm16 .subReg16Rm16 bs
  | 12 => imm8 .subAlImm8 bs
  | 13 => imm16 .subAwImm16 bs
  | 14 => plain .prefixPs bs
  | _ => plain .unimp2F bs

/-- 30 to 3F -/
def decodeRow3 (op : Byte) (bs : List Byte) : Decoded :=
  match op.toNat % 16 with
  | 0 => rmReg8 .xorRm8Reg8 bs
  | 1 => rmReg16 .xorRm16Reg16 bs
  | 2 => regRm8 .xorReg8Rm8 bs
  | 3 => regRm16 .xorReg16Rm16 bs
  | 4 => imm8 .xorAlImm8 bs
  | 5 => imm16 .xorAwImm16 bs
  | 6 => plain .prefixSs bs
  | 7 => plain .unimp37 bs
  | 8 => rmReg8 .cmpRm8Reg8 bs
  | 9 => rmReg16 .cmpRm16Reg16 bs
  | 10 => regRm8 .cmpReg8Rm8 bs
  | 11 => regRm16 .cmpReg16Rm16 bs
  | 12 => imm8 .cmpAlImm8 bs
  | 13 => imm16 .cmpAwImm16 bs
  | 14 => plain .prefixDs0 bs
  | _ => plain .unimp3F bs

/-- 40 to 4F -/
def decodeRow4 (op : Byte) (bs : List Byte) : Decoded :=
  if op.toNat % 16 < 8 then opReg16 .incReg16 op bs else opReg16 .decReg16 op bs

/-- 50 to 5F -/
def decodeRow5 (op : Byte) (bs : List Byte) : Decoded :=
  if op.toNat % 16 < 8 then opReg16 .pushReg16 op bs else opReg16 .popReg16 op bs

/-- 60 to 6F -/
def decodeRow6 (op : Byte) (bs : List Byte) : Decoded :=
  match op.toNat % 16 with
  | 0 => plain .unimp60 bs
  | 1 => plain .unimp61 bs
  | 2 => plain .unimp62 bs
  | 3 => plain .unimp63 bs
  | 4 => plain .unimp64 bs
  | 5 => plain .unimp65 bs
  | 6 => plain .unimp66 bs
  | 7 => plain .unimp67 bs
  | 8 => plain .unimp68 bs
  | 9 => plain .unimp69 bs
  | 10 => plain .unimp6A bs
  | 11 => plain .unimp6B bs
  | 12 => plain .inmByte bs
  | 13 => plain .inmWord bs
  | 14 => plain .outmByte bs
  | _ => plain .outmWord bs

/-- 70 to 7F -/
def decodeRow7 (op : Byte) (bs : List Byte) : Decoded :=
  match op.toNat % 16 with
  | 0 => imm8 .bv bs
  | 1 => imm8 .bnv bs
  | 2 => imm8 .bc bs
  | 3 => imm8 .bnc bs
  | 4 => imm8 .be bs
  | 5 => imm8 .bne bs
  | 6 => imm8 .bnh bs
  | 7 => imm8 .bh bs
  | 8 => imm8 .bn bs
  | 9 => imm8 .bp bs
  | 10 => imm8 .bpe bs
  | 11 => imm8 .bpo bs
  | 12 => imm8 .blt bs
  | 13 => imm8 .bge bs
  | 14 => imm8 .ble bs
  | _ => imm8 .bgt bs

/-- 80 to 8F -/
def decodeRow8 (op : Byte) (bs : List Byte) : Decoded :=
  match op.toNat % 16 with
  | 0 => decodeGroup80 bs
  | 1 => decodeGroup81 bs
  | 2 => plain .unimp82 bs
  | 3 => decodeGroup83 bs
  | 4 => plain .unimp84 bs
  | 5 => plain .unimp85 bs
  | 6 => plain .unimp86 bs
  | 7 => plain .unimp87 bs
  | 8 => rmReg8 .movRm8Reg8 bs
  | 9 => rmReg16 .movRm16Reg16 bs
  | 10 => regRm8 .movReg8Rm8 bs
  | 11 => regRm16 .movReg16Rm16 bs
  | 12 => decodeGroup8C bs
  | 13 => plain .unimp8D bs
  | 14 => decodeGroup8E bs
  | _ => plain .unimp8F bs

/-- 90 to 9F -/
def decodeRow9 (op : Byte) (bs : List Byte) : Decoded :=
  match op.toNat % 16 with
  | 0 => plain .unimp90 bs
  | 1 => plain .unimp91 bs
  | 2 => plain .unimp92 bs
  | 3 => plain .unimp93 bs
  | 4 => plain .unimp94 bs
  | 5 => plain .unimp95 bs
  | 6 => plain .unimp96 bs
  | 7 => plain .unimp97 bs
  | 8 => plain .unimp98 bs
  | 9 => plain .unimp99 bs
  | 10 => far .callFar bs
  | 11 => plain .unimp9B bs
  | 12 => plain .pushPsw bs
  | 13 => plain .popPsw bs
  | 14 => plain .unimp9E bs
  | _ => plain .unimp9F bs

/-- A0 to AF -/
def decodeRowA (op : Byte) (bs : List Byte) : Decoded :=
  match op.toNat % 16 with
  | 0 => imm16 .movAlDirect bs
  | 1 => imm16 .movAwDirect bs
  | 2 => imm16 .movDirectAl bs
  | 3 => imm16 .movDirectAw bs
  | 4 => plain .movbkByte bs
  | 5 => plain .movbkWord bs
  | 6 => plain .cmpbkByteUnimp bs
  | 7 => plain .cmpbkWordUnimp bs
  | 8 => plain .unimpA8 bs
  | 9 => plain .unimpA9 bs
  | 10 => plain .stmByte bs
  | 11 => plain .stmWord bs
  | 12 => plain .ldmByte bs
  | 13 => plain .ldmWord bs
  | 14 => plain .cmpmByteUnimp bs
  | _ => plain .cmpmWordUnimp bs

/-- B0 to BF -/
def decodeRowB (op : Byte) (bs : List Byte) : Decoded :=
  if op.toNat % 16 < 8 then imm8 (.movReg8Imm8 (Reg8.ofCode (memField op))) bs else imm16 (.movReg16Imm16 (Reg16.ofCode (memField op))) bs

/-- C0 to CF -/
def decodeRowC (op : Byte) (bs : List Byte) : Decoded :=
  match op.toNat % 16 with
  | 0 => decodeGroupC0 bs
  | 1 => decodeGroupC1 bs
  | 2 => plain .unimpC2 bs
  | 3 => plain .retNear bs
  | 4 => plain .unimpC4 bs
  | 5 => plain .unimpC5 bs
  | 6 => decodeGroupC6 bs
  | 7 => decodeGroupC7 bs
  | 8 => plain .unimpC8 bs
  | 9 => plain .unimpC9 bs
  | 10 => plain .unimpCA bs
  | 11 => plain .retFar bs
  | 12 => plain .unimpCC bs
  | 13 => plain .unimpCD bs
  | 14 => plain .unimpCE bs
  | _ => plain .unimpCF bs

/-- D0 to DF -/
def decodeRowD (op : Byte) (bs : List Byte) : Decoded :=
  match op.toNat % 16 with
  | 0 => decodeGroupD0 bs
  | 1 => decodeGroupD1 bs
  | 2 => decodeGroupD2 bs
  | 3 => decodeGroupD3 bs
  | 4 => plain .unimpD4 bs
  | 5 => plain .unimpD5 bs
  | 6 => plain .unimpD6 bs
  | 7 => plain .unimpD7 bs
  | 8 => plain .unimpD8 bs
  | 9 => plain .unimpD9 bs
  | 10 => plain .unimpDA bs
  | 11 => plain .unimpDB bs
  | 12 => plain .unimpDC bs
  | 13 => plain .unimpDD bs
  | 14 => plain .unimpDE bs
  | _ => plain .unimpDF bs

/-- E0 to EF -/
def decodeRowE (op : Byte) (bs : List Byte) : Decoded :=
  match op.toNat % 16 with
  | 0 => plain .unimpE0 bs
  | 1 => plain .unimpE1 bs
  | 2 => plain .unimpE2 bs
  | 3 => plain .unimpE3 bs
  | 4 => imm8 .inAlImm8 bs
  | 5 => imm8 .inAwImm8 bs
  | 6 => imm8 .outImm8Al bs
  | 7 => imm8 .outImm8Aw bs
  | 8 => imm16 .callNear bs
  | 9 => imm16 .brNear bs
  | 10 => far .brFar bs
  | 11 => imm8 .brShort bs
  | 12 => plain .inAlDw bs
  | 13 => plain .inAwDw bs
  | 14 => plain .outDwAl bs
  | _ => plain .outDwAw bs

/-- F0 to FF -/
def decodeRowF (op : Byte) (bs : List Byte) : Decoded :=
  match op.toNat % 16 with
  | 0 => plain .unimpF0 bs
  | 1 => plain .unimpF1 bs
  | 2 => plain .unimpF2 bs
  | 3 => decodeRep bs
  | 4 => plain .unimpF4 bs
  | 5 => plain .unimpF5 bs
  | 6 => decodeGroupF6 bs
  | 7 => decodeGroupF7 bs
  | 8 => plain .unimpF8 bs
  | 9 => plain .unimpF9 bs
  | 10 => plain .unimpFA bs
  | 11 => plain .unimpFB bs
  | 12 => plain .unimpFC bs
  | 13 => plain .unimpFD bs
  | 14 => plain .unimpFE bs
  | _ => plain .unimpFF bs

/-- The dispatch table: total on the first byte (R80). -/
def decodeOp (op : Byte) (bs : List Byte) : Decoded :=
  match op.toNat / 16 with
  | 0 => decodeRow0 op bs
  | 1 => decodeRow1 op bs
  | 2 => decodeRow2 op bs
  | 3 => decodeRow3 op bs
  | 4 => decodeRow4 op bs
  | 5 => decodeRow5 op bs
  | 6 => decodeRow6 op bs
  | 7 => decodeRow7 op bs
  | 8 => decodeRow8 op bs
  | 9 => decodeRow9 op bs
  | 10 => decodeRowA op bs
  | 11 => decodeRowB op bs
  | 12 => decodeRowC op bs
  | 13 => decodeRowD op bs
  | 14 => decodeRowE op bs
  | _ => decodeRowF op bs

/-- The decoder: the instruction at the head of a byte list and the bytes after it. -/
def decode (bs : List Byte) : Decoded := takeByte bs decodeOp

/-! ## The encoder, from the same rows -/

/-- A word in the instruction stream, low byte first (20_memory.md R40). -/
def wordBytes (v : Word) : List Byte := [loByte v, hiByte v]

/-- An opcode, a ModRM byte with its displacement, and what follows it (R70, formats RM, RM_I8, RM_I16), byte width. -/
def encRM8 (op : Byte) (reg : BitVec 3) (rm : RM8) (tail : List Byte) : List Byte :=
  op :: rm.modrm8 reg :: (rm.dispBytes ++ tail)

/-- As `encRM8`, word width. -/
def encRM16 (op : Byte) (reg : BitVec 3) (rm : RM16) (tail : List Byte) : List Byte :=
  op :: rm.modrm16 reg :: (rm.dispBytes ++ tail)

/-- An opcode byte with a register code in its low three bits (R70, format REG). -/
def opWithReg (op : Byte) (code : BitVec 3) : Byte := op ||| code.setWidth 8

/-- The bytes of a well-formed instruction. -/
def encode : Instr → List Byte
  | .addRm8Reg8 rm reg => encRM8 0x00 reg.code rm []
  | .addRm16Reg16 rm reg => encRM16 0x01 reg.code rm []
  | .addReg8Rm8 reg rm => encRM8 0x02 reg.code rm []
  | .addReg16Rm16 reg rm => encRM16 0x03 reg.code rm []
  | .addAlImm8 imm => [0x04, imm]
  | .addAwImm16 imm => 0x05 :: wordBytes imm
  | .pushDs1 => [0x06]
  | .popDs1 => [0x07]
  | .orRm8Reg8 rm reg => encRM8 0x08 reg.code rm []
  | .orRm16Reg16 rm reg => encRM16 0x09 reg.code rm []
  | .orReg8Rm8 reg rm => encRM8 0x0A reg.code rm []
  | .orReg16Rm16 reg rm => encRM16 0x0B reg.code rm []
  | .orAlImm8 imm => [0x0C, imm]
  | .orAwImm16 imm => 0x0D :: wordBytes imm
  | .pushPs => [0x0E]
  | .escUnimp00 sub => [0x0F, sub]
  | .escUnimp80 sub => [0x0F, sub]
  | .escUnimpC0 sub => [0x0F, sub]
  | .brkxa n => [0x0F, 0xE0, n]
  | .escUnimpE1 => [0x0F, 0xE1]
  | .escUnimpE2 sub => [0x0F, sub]
  | .escUnimpE4 sub => [0x0F, sub]
  | .escUnimpE8 sub => [0x0F, sub]
  | .retxa n => [0x0F, 0xF0, n]
  | .escUnimpF1 => [0x0F, 0xF1]
  | .escUnimpF2 sub => [0x0F, sub]
  | .escUnimpF4 sub => [0x0F, sub]
  | .escUnimpF8 sub => [0x0F, sub]
  | .unimp10 => [0x10]
  | .unimp11 => [0x11]
  | .unimp12 => [0x12]
  | .unimp13 => [0x13]
  | .unimp14 => [0x14]
  | .unimp15 => [0x15]
  | .pushSs => [0x16]
  | .popSs => [0x17]
  | .unimp18 => [0x18]
  | .unimp19 => [0x19]
  | .unimp1A => [0x1A]
  | .unimp1B => [0x1B]
  | .unimp1C => [0x1C]
  | .unimp1D => [0x1D]
  | .pushDs0 => [0x1E]
  | .popDs0 => [0x1F]
  | .andRm8Reg8 rm reg => encRM8 0x20 reg.code rm []
  | .andRm16Reg16 rm reg => encRM16 0x21 reg.code rm []
  | .andReg8Rm8 reg rm => encRM8 0x22 reg.code rm []
  | .andReg16Rm16 reg rm => encRM16 0x23 reg.code rm []
  | .andAlImm8 imm => [0x24, imm]
  | .andAwImm16 imm => 0x25 :: wordBytes imm
  | .prefixDs1 => [0x26]
  | .unimp27 => [0x27]
  | .subRm8Reg8 rm reg => encRM8 0x28 reg.code rm []
  | .subRm16Reg16 rm reg => encRM16 0x29 reg.code rm []
  | .subReg8Rm8 reg rm => encRM8 0x2A reg.code rm []
  | .subReg16Rm16 reg rm => encRM16 0x2B reg.code rm []
  | .subAlImm8 imm => [0x2C, imm]
  | .subAwImm16 imm => 0x2D :: wordBytes imm
  | .prefixPs => [0x2E]
  | .unimp2F => [0x2F]
  | .xorRm8Reg8 rm reg => encRM8 0x30 reg.code rm []
  | .xorRm16Reg16 rm reg => encRM16 0x31 reg.code rm []
  | .xorReg8Rm8 reg rm => encRM8 0x32 reg.code rm []
  | .xorReg16Rm16 reg rm => encRM16 0x33 reg.code rm []
  | .xorAlImm8 imm => [0x34, imm]
  | .xorAwImm16 imm => 0x35 :: wordBytes imm
  | .prefixSs => [0x36]
  | .unimp37 => [0x37]
  | .cmpRm8Reg8 rm reg => encRM8 0x38 reg.code rm []
  | .cmpRm16Reg16 rm reg => encRM16 0x39 reg.code rm []
  | .cmpReg8Rm8 reg rm => encRM8 0x3A reg.code rm []
  | .cmpReg16Rm16 reg rm => encRM16 0x3B reg.code rm []
  | .cmpAlImm8 imm => [0x3C, imm]
  | .cmpAwImm16 imm => 0x3D :: wordBytes imm
  | .prefixDs0 => [0x3E]
  | .unimp3F => [0x3F]
  | .incReg16 reg => [opWithReg 0x40 reg.code]
  | .decReg16 reg => [opWithReg 0x48 reg.code]
  | .pushReg16 reg => [opWithReg 0x50 reg.code]
  | .popReg16 reg => [opWithReg 0x58 reg.code]
  | .unimp60 => [0x60]
  | .unimp61 => [0x61]
  | .unimp62 => [0x62]
  | .unimp63 => [0x63]
  | .unimp64 => [0x64]
  | .unimp65 => [0x65]
  | .unimp66 => [0x66]
  | .unimp67 => [0x67]
  | .unimp68 => [0x68]
  | .unimp69 => [0x69]
  | .unimp6A => [0x6A]
  | .unimp6B => [0x6B]
  | .inmByte => [0x6C]
  | .inmWord => [0x6D]
  | .outmByte => [0x6E]
  | .outmWord => [0x6F]
  | .bv disp => [0x70, disp]
  | .bnv disp => [0x71, disp]
  | .bc disp => [0x72, disp]
  | .bnc disp => [0x73, disp]
  | .be disp => [0x74, disp]
  | .bne disp => [0x75, disp]
  | .bnh disp => [0x76, disp]
  | .bh disp => [0x77, disp]
  | .bn disp => [0x78, disp]
  | .bp disp => [0x79, disp]
  | .bpe disp => [0x7A, disp]
  | .bpo disp => [0x7B, disp]
  | .blt disp => [0x7C, disp]
  | .bge disp => [0x7D, disp]
  | .ble disp => [0x7E, disp]
  | .bgt disp => [0x7F, disp]
  | .addRm8Imm8 rm imm => encRM8 0x80 0 rm [imm]
  | .orRm8Imm8 rm imm => encRM8 0x80 1 rm [imm]
  | .addcRm8Imm8Unimp rm => encRM8 0x80 2 rm []
  | .subcRm8Imm8Unimp rm => encRM8 0x80 3 rm []
  | .andRm8Imm8 rm imm => encRM8 0x80 4 rm [imm]
  | .subRm8Imm8 rm imm => encRM8 0x80 5 rm [imm]
  | .xorRm8Imm8 rm imm => encRM8 0x80 6 rm [imm]
  | .cmpRm8Imm8 rm imm => encRM8 0x80 7 rm [imm]
  | .addRm16Imm16 rm imm => encRM16 0x81 0 rm (wordBytes imm)
  | .orRm16Imm16 rm imm => encRM16 0x81 1 rm (wordBytes imm)
  | .addcRm16Imm16Unimp rm => encRM16 0x81 2 rm []
  | .subcRm16Imm16Unimp rm => encRM16 0x81 3 rm []
  | .andRm16Imm16 rm imm => encRM16 0x81 4 rm (wordBytes imm)
  | .subRm16Imm16 rm imm => encRM16 0x81 5 rm (wordBytes imm)
  | .xorRm16Imm16 rm imm => encRM16 0x81 6 rm (wordBytes imm)
  | .cmpRm16Imm16 rm imm => encRM16 0x81 7 rm (wordBytes imm)
  | .unimp82 => [0x82]
  | .addRm16Simm8 rm imm => encRM16 0x83 0 rm [imm]
  | .orRm16Simm8 rm imm => encRM16 0x83 1 rm [imm]
  | .addcRm16Simm8Unimp rm => encRM16 0x83 2 rm []
  | .subcRm16Simm8Unimp rm => encRM16 0x83 3 rm []
  | .andRm16Simm8 rm imm => encRM16 0x83 4 rm [imm]
  | .subRm16Simm8 rm imm => encRM16 0x83 5 rm [imm]
  | .xorRm16Simm8 rm imm => encRM16 0x83 6 rm [imm]
  | .cmpRm16Simm8 rm imm => encRM16 0x83 7 rm [imm]
  | .unimp84 => [0x84]
  | .unimp85 => [0x85]
  | .unimp86 => [0x86]
  | .unimp87 => [0x87]
  | .movRm8Reg8 rm reg => encRM8 0x88 reg.code rm []
  | .movRm16Reg16 rm reg => encRM16 0x89 reg.code rm []
  | .movReg8Rm8 reg rm => encRM8 0x8A reg.code rm []
  | .movReg16Rm16 reg rm => encRM16 0x8B reg.code rm []
  | .movRm16Sreg rm src => encRM16 0x8C src.code rm []
  | .movRm16SregUndef rm code => encRM16 0x8C code rm []
  | .unimp8D => [0x8D]
  | .movDs1Rm16 rm => encRM16 0x8E 0 rm []
  | .movPsRm16Undef rm => encRM16 0x8E 1 rm []
  | .movSsDs0Rm16 dst rm => encRM16 0x8E dst.code rm []
  | .movSregRm16Undef rm code => encRM16 0x8E code rm []
  | .unimp8F => [0x8F]
  | .unimp90 => [0x90]
  | .unimp91 => [0x91]
  | .unimp92 => [0x92]
  | .unimp93 => [0x93]
  | .unimp94 => [0x94]
  | .unimp95 => [0x95]
  | .unimp96 => [0x96]
  | .unimp97 => [0x97]
  | .unimp98 => [0x98]
  | .unimp99 => [0x99]
  | .callFar off seg => 0x9A :: (wordBytes off ++ wordBytes seg)
  | .unimp9B => [0x9B]
  | .pushPsw => [0x9C]
  | .popPsw => [0x9D]
  | .unimp9E => [0x9E]
  | .unimp9F => [0x9F]
  | .movAlDirect addr => 0xA0 :: wordBytes addr
  | .movAwDirect addr => 0xA1 :: wordBytes addr
  | .movDirectAl addr => 0xA2 :: wordBytes addr
  | .movDirectAw addr => 0xA3 :: wordBytes addr
  | .movbkByte => [0xA4]
  | .movbkWord => [0xA5]
  | .cmpbkByteUnimp => [0xA6]
  | .cmpbkWordUnimp => [0xA7]
  | .unimpA8 => [0xA8]
  | .unimpA9 => [0xA9]
  | .stmByte => [0xAA]
  | .stmWord => [0xAB]
  | .ldmByte => [0xAC]
  | .ldmWord => [0xAD]
  | .cmpmByteUnimp => [0xAE]
  | .cmpmWordUnimp => [0xAF]
  | .movReg8Imm8 reg imm => [opWithReg 0xB0 reg.code, imm]
  | .movReg16Imm16 reg imm => opWithReg 0xB8 reg.code :: wordBytes imm
  | .rolRm8Imm8 rm count => encRM8 0xC0 0 rm [count]
  | .rorRm8Imm8 rm count => encRM8 0xC0 1 rm [count]
  | .rolcRm8Imm8 rm count => encRM8 0xC0 2 rm [count]
  | .rorcRm8Imm8 rm count => encRM8 0xC0 3 rm [count]
  | .shlRm8Imm8 rm count => encRM8 0xC0 4 rm [count]
  | .shrRm8Imm8 rm count => encRM8 0xC0 5 rm [count]
  | .shiftC0Undef rm => encRM8 0xC0 6 rm []
  | .shraRm8Imm8 rm count => encRM8 0xC0 7 rm [count]
  | .rolRm16Imm8 rm count => encRM16 0xC1 0 rm [count]
  | .rorRm16Imm8 rm count => encRM16 0xC1 1 rm [count]
  | .rolcRm16Imm8 rm count => encRM16 0xC1 2 rm [count]
  | .rorcRm16Imm8 rm count => encRM16 0xC1 3 rm [count]
  | .shlRm16Imm8 rm count => encRM16 0xC1 4 rm [count]
  | .shrRm16Imm8 rm count => encRM16 0xC1 5 rm [count]
  | .shiftC1Undef rm => encRM16 0xC1 6 rm []
  | .shraRm16Imm8 rm count => encRM16 0xC1 7 rm [count]
  | .unimpC2 => [0xC2]
  | .retNear => [0xC3]
  | .unimpC4 => [0xC4]
  | .unimpC5 => [0xC5]
  | .movRm8Imm8 rm imm => encRM8 0xC6 0 rm [imm]
  | .movC6Undef1 rm => encRM8 0xC6 1 rm []
  | .movC6Undef2to3 rm code => encRM8 0xC6 code rm []
  | .movC6Undef4to7 rm code => encRM8 0xC6 code rm []
  | .movRm16Imm16 rm imm => encRM16 0xC7 0 rm (wordBytes imm)
  | .movC7Undef1 rm => encRM16 0xC7 1 rm []
  | .movC7Undef2to3 rm code => encRM16 0xC7 code rm []
  | .movC7Undef4to7 rm code => encRM16 0xC7 code rm []
  | .unimpC8 => [0xC8]
  | .unimpC9 => [0xC9]
  | .unimpCA => [0xCA]
  | .retFar => [0xCB]
  | .unimpCC => [0xCC]
  | .unimpCD => [0xCD]
  | .unimpCE => [0xCE]
  | .unimpCF => [0xCF]
  | .rolRm8One rm => encRM8 0xD0 0 rm []
  | .rorRm8One rm => encRM8 0xD0 1 rm []
  | .rolcRm8One rm => encRM8 0xD0 2 rm []
  | .rorcRm8One rm => encRM8 0xD0 3 rm []
  | .shlRm8One rm => encRM8 0xD0 4 rm []
  | .shrRm8One rm => encRM8 0xD0 5 rm []
  | .shiftD0Undef rm => encRM8 0xD0 6 rm []
  | .shraRm8One rm => encRM8 0xD0 7 rm []
  | .rolRm16One rm => encRM16 0xD1 0 rm []
  | .rorRm16One rm => encRM16 0xD1 1 rm []
  | .rolcRm16One rm => encRM16 0xD1 2 rm []
  | .rorcRm16One rm => encRM16 0xD1 3 rm []
  | .shlRm16One rm => encRM16 0xD1 4 rm []
  | .shrRm16One rm => encRM16 0xD1 5 rm []
  | .shiftD1Undef rm => encRM16 0xD1 6 rm []
  | .shraRm16One rm => encRM16 0xD1 7 rm []
  | .rolRm8Cl rm => encRM8 0xD2 0 rm []
  | .rorRm8Cl rm => encRM8 0xD2 1 rm []
  | .rolcRm8Cl rm => encRM8 0xD2 2 rm []
  | .rorcRm8Cl rm => encRM8 0xD2 3 rm []
  | .shlRm8Cl rm => encRM8 0xD2 4 rm []
  | .shrRm8Cl rm => encRM8 0xD2 5 rm []
  | .shiftD2Undef rm => encRM8 0xD2 6 rm []
  | .shraRm8Cl rm => encRM8 0xD2 7 rm []
  | .rolRm16Cl rm => encRM16 0xD3 0 rm []
  | .rorRm16Cl rm => encRM16 0xD3 1 rm []
  | .rolcRm16Cl rm => encRM16 0xD3 2 rm []
  | .rorcRm16Cl rm => encRM16 0xD3 3 rm []
  | .shlRm16Cl rm => encRM16 0xD3 4 rm []
  | .shrRm16Cl rm => encRM16 0xD3 5 rm []
  | .shiftD3Undef rm => encRM16 0xD3 6 rm []
  | .shraRm16Cl rm => encRM16 0xD3 7 rm []
  | .unimpD4 => [0xD4]
  | .unimpD5 => [0xD5]
  | .unimpD6 => [0xD6]
  | .unimpD7 => [0xD7]
  | .unimpD8 => [0xD8]
  | .unimpD9 => [0xD9]
  | .unimpDA => [0xDA]
  | .unimpDB => [0xDB]
  | .unimpDC => [0xDC]
  | .unimpDD => [0xDD]
  | .unimpDE => [0xDE]
  | .unimpDF => [0xDF]
  | .unimpE0 => [0xE0]
  | .unimpE1 => [0xE1]
  | .unimpE2 => [0xE2]
  | .unimpE3 => [0xE3]
  | .inAlImm8 port => [0xE4, port]
  | .inAwImm8 port => [0xE5, port]
  | .outImm8Al port => [0xE6, port]
  | .outImm8Aw port => [0xE7, port]
  | .callNear disp => 0xE8 :: wordBytes disp
  | .brNear disp => 0xE9 :: wordBytes disp
  | .brFar off seg => 0xEA :: (wordBytes off ++ wordBytes seg)
  | .brShort disp => [0xEB, disp]
  | .inAlDw => [0xEC]
  | .inAwDw => [0xED]
  | .outDwAl => [0xEE]
  | .outDwAw => [0xEF]
  | .unimpF0 => [0xF0]
  | .unimpF1 => [0xF1]
  | .unimpF2 => [0xF2]
  | .repUnimp00 follower => [0xF3, follower]
  | .repUnimp40 follower => [0xF3, follower]
  | .repUnimp60 follower => [0xF3, follower]
  | .repUnimp68 follower => [0xF3, follower]
  | .repInmByte => [0xF3, 0x6C]
  | .repInmWord => [0xF3, 0x6D]
  | .repOutmByte => [0xF3, 0x6E]
  | .repOutmWord => [0xF3, 0x6F]
  | .repUnimp70 follower => [0xF3, follower]
  | .repUnimp80 follower => [0xF3, follower]
  | .repUnimpA0 follower => [0xF3, follower]
  | .repMovbkByte => [0xF3, 0xA4]
  | .repMovbkWord => [0xF3, 0xA5]
  | .repCmpbkByteUnimp => [0xF3, 0xA6]
  | .repCmpbkWordUnimp => [0xF3, 0xA7]
  | .repUnimpA8 follower => [0xF3, follower]
  | .repStmByte => [0xF3, 0xAA]
  | .repStmWord => [0xF3, 0xAB]
  | .repLdmByte => [0xF3, 0xAC]
  | .repLdmWord => [0xF3, 0xAD]
  | .repCmpmByteUnimp => [0xF3, 0xAE]
  | .repCmpmWordUnimp => [0xF3, 0xAF]
  | .repUnimpB0 follower => [0xF3, follower]
  | .repUnimpC0 follower => [0xF3, follower]
  | .unimpF4 => [0xF4]
  | .unimpF5 => [0xF5]
  | .groupF6Unimp0to3 rm code => encRM8 0xF6 code rm []
  | .groupF6Unimp4to5 rm code => encRM8 0xF6 code rm []
  | .divuRm8 rm => encRM8 0xF6 6 rm []
  | .divRm8 rm => encRM8 0xF6 7 rm []
  | .groupF7Unimp0to3 rm code => encRM16 0xF7 code rm []
  | .groupF7Unimp4to5 rm code => encRM16 0xF7 code rm []
  | .divuRm16 rm => encRM16 0xF7 6 rm []
  | .divRm16 rm => encRM16 0xF7 7 rm []
  | .unimpF8 => [0xF8]
  | .unimpF9 => [0xF9]
  | .unimpFA => [0xFA]
  | .unimpFB => [0xFB]
  | .unimpFC => [0xFC]
  | .unimpFD => [0xFD]
  | .unimpFE => [0xFE]
  | .unimpFF => [0xFF]

/-! ## The host's word -/

/-- The bytes of an instruction given as the table numbers it: the table's 16-bit value is `(byte0 << 8) | byte1`
(30_encoding.md R84), so the first byte stands in bits 15 to 8; later words count on from bit 16 in the same way
(notes/assumptions/8.md). Six bytes, the longest instruction; every bit at `nbits` or above is 0. A row of one byte given
alone (`nbits` at most 8) is that byte. -/
def tableWordBytes (nbits w : Nat) : List Byte :=
  let v := w % 2 ^ nbits
  if nbits ≤ 8 then [BitVec.ofNat 8 v, 0, 0, 0, 0, 0]
  else
    [BitVec.ofNat 8 (v >>> 8), BitVec.ofNat 8 v, BitVec.ofNat 8 (v >>> 24), BitVec.ofNat 8 (v >>> 16),
      BitVec.ofNat 8 (v >>> 40), BitVec.ofNat 8 (v >>> 32)]

/-- The instruction the decoder reads from a word numbered as spec/opcode_table.json numbers it. -/
def decodeTableWord (nbits w : Nat) : Option Instr :=
  match decode (tableWordBytes nbits w) with
  | .ok (i, _) => some i
  | .error _ => none

end Sys2Proof
end

