-- ==== Sys2Proof/Machine/State.lean ====
section
/-! DEFINITION. The state of the core (10_state.md R10 to R31), the faults it records (60_exceptions.md R307) and its reset
value. Plain data. -/

namespace Sys2Proof.Machine

/-- The complete list of faults of 60_exceptions.md R307 with the information each records. One and the same value is what
the state's `halted` records when a meaning raises (R300) and what `step` answers for a halted state. Stopping is safe:
a halted core takes no further step. -/
inductive Fault where
  /-- R301. Raised by every encoding without a behaviour: the first byte, and the secondary byte where one was fetched.
  Safe: the silicon has a meaning for many of them, this core has none. -/
  | unimplemented (op : Byte) (secondary : Option Byte)
  /-- R302. Raised by `Push16` with SP below 2: PUSH, CALL near, CALL far. Records SP. Safe. -/
  | stackOverflow (sp : Word)
  /-- R303. Raised by DIVU and DIV: zero divisor or a quotient that does not fit. Records the opcode and the divisor, a byte
  divisor zero-extended (log 12). Safe. -/
  | divideError (op : Byte) (divisor : Word)
  /-- R304. Raised by the sub-codes of implemented opcodes that select nothing (R81). Safe. -/
  | undefinedEncoding (op modrm : Byte)
  /-- R305. The named outcome of the branch no byte sequence reaches (log 13). Safe. -/
  | invariantViolation
  /-- R306. Construction with an image longer than conventional memory; raised by no step. Safe. -/
  | imageTooLarge (length : Nat)
  deriving DecidableEq, Repr

/-- Refusals. No meaning of this model refuses. -/
inductive Refusal where
  /-- The arm of an instruction without a meaning in `exec`; no arm is in that case. Safe. -/
  | notModelled (mnemonic : String)
  deriving DecidableEq, Repr

/-- A byte array as (address, byte) pairs: addresses strictly rising, no entry 0x00, which is what an unlisted address reads
as (R31: "all other memory/ports initialize to zero"). -/
abbrev Mem := List Host.Cell

/-- The whole state. -/
structure State where
  /-- general registers (R10) -/
  aw : Word
  bw : Word
  cw : Word
  dw : Word
  /-- pointer and index registers (R13) -/
  sp : Word
  bp : Word
  ix : Word
  iy : Word
  /-- program counter (R14) -/
  pc : Word
  /-- program status word, all sixteen bits storage (R15) -/
  psw : Word
  /-- segment registers (R16) -/
  ps : Word
  ss : Word
  ds0 : Word
  ds1 : Word
  /-- conventional memory, 0x100000 bytes (R22) -/
  memory : Mem
  /-- extended memory, 0xA0000 bytes (R23) -/
  extended : Mem
  /-- port space, 0x10000 bytes; the `xa` flag is a bit of it (R24) -/
  ports : Mem
  /-- on-chip peripheral array, 0x100 bytes (R25) -/
  internal : Mem
  /-- segment-override latch (R26) -/
  segOverride : Option SReg
  /-- first byte fetched by the last step (R27) -/
  lastOpcode : Byte
  /-- cycle clock (R28), a natural number (log 5) -/
  clock : Nat
  /-- output trace, oldest first (R29) -/
  trace : List (Word × Byte)
  /-- set when a fault is raised, with the fault (R30) -/
  halted : Option Fault
  /-- the open parameters XA_PORT and XA_MASK (00_scope.md R6, log 2); no step changes them -/
  cfg : Config
  deriving DecidableEq, Repr

/-- What an instruction or a step answers. -/
abbrev Result := Host.Outcome State Fault Refusal

/-- The state after construction with an empty image (R31, 70_reset_and_hazards.md R330; log 7). -/
def State.reset : State where
  aw := 0
  bw := 0
  cw := 0
  dw := 0
  sp := 0
  bp := 0
  ix := 0
  iy := 0
  pc := 0
  psw := 0xF004
  ps := 0xFFFF
  ss := 0
  ds0 := 0
  ds1 := 0
  memory := []
  extended := []
  ports := []
  internal := []
  segOverride := none
  lastOpcode := 0
  clock := 0
  trace := []
  halted := none
  cfg := Config.default

end Sys2Proof.Machine
end

