-- ==== Sys2Proof/Machine/Ops.lean ====
section
/-! DEFINITION. The named operations over registers, memory, ports and the stack, and raising a fault
(10_state.md R11, R12, R17; 20_memory.md R40 to R50; 60_exceptions.md R300). -/

namespace Sys2Proof.Machine

/-! ## Byte arrays -/

/-- The byte at an address; 0x00 where nothing is listed (R31). -/
def Mem.read : Mem → Nat → Byte
  | [], _ => 0
  | (k, v) :: m, a => if k = a then v else Mem.read m a

/-- Store a byte, keeping the canonical form. -/
def Mem.write : Mem → Nat → Byte → Mem
  | [], a, v => if v = 0 then [] else [(a, v)]
  | (k, w) :: m, a, v =>
    if a < k then (if v = 0 then (k, w) :: m else (a, v) :: (k, w) :: m)
    else if a = k then (if v = 0 then m else (a, v) :: m)
    else (k, w) :: Mem.write m a v

/-- Every listed address lies above `lo`, addresses rise strictly, no listed byte is 0x00. -/
def Mem.risesFrom (lo : Nat) : Mem → Bool
  | [] => true
  | (k, v) :: m => decide (lo ≤ k) && v != 0 && Mem.risesFrom (k + 1) m

/-- The canonical form. -/
def Mem.wf (m : Mem) : Bool := Mem.risesFrom 0 m

/-- Every listed address is below `size`. -/
def Mem.below (size : Nat) (m : Mem) : Bool := m.all fun c => c.1 < size

/-- `bytes` at `a`, `a + 1`, … of an array that is zero elsewhere. -/
def Mem.ofBytes (a : Nat) : List Byte → Mem
  | [] => []
  | b :: bs => if b = 0 then Mem.ofBytes (a + 1) bs else (a, b) :: Mem.ofBytes (a + 1) bs

/-! ## Registers -/

namespace State

/-- `reg16[c]` (R12). -/
def reg16 (s : State) : Reg16 → Word
  | .aw => s.aw | .cw => s.cw | .dw => s.dw | .bw => s.bw
  | .sp => s.sp | .bp => s.bp | .ix => s.ix | .iy => s.iy

/-- `reg16[c] <- v` (R12). -/
def setReg16 (s : State) : Reg16 → Word → State
  | .aw, v => { s with aw := v } | .cw, v => { s with cw := v }
  | .dw, v => { s with dw := v } | .bw, v => { s with bw := v }
  | .sp, v => { s with sp := v } | .bp, v => { s with bp := v }
  | .ix, v => { s with ix := v } | .iy, v => { s with iy := v }

end State

/-- The word register a byte register is a view of (R11). -/
def parentOf : Reg8 → Reg16
  | .al | .ah => .aw | .cl | .ch => .cw | .dl | .dh => .dw | .bl | .bh => .bw

/-- Whether a byte register is the H half of its word (R11). -/
def isHighHalf : Reg8 → Bool
  | .al | .cl | .dl | .bl => false | .ah | .ch | .dh | .bh => true

namespace State

/-- `reg8[c]` (R11, R12). -/
def reg8 (s : State) (r : Reg8) : Byte :=
  let w := s.reg16 (parentOf r)
  if isHighHalf r then hiByte w else loByte w

/-- `reg8[c] <- v`: "only touches its 8 bits of the parent word" (R11). -/
def setReg8 (s : State) (r : Reg8) (v : Byte) : State :=
  let w := s.reg16 (parentOf r)
  s.setReg16 (parentOf r) (if isHighHalf r then wordOf v (loByte w) else wordOf (hiByte w) v)

/-- `sreg[c]` (R17). -/
def sreg (s : State) : SReg → Word
  | .ds1 => s.ds1 | .ps => s.ps | .ss => s.ss | .ds0 => s.ds0

/-- `sreg[c] <- v` (R17). -/
def setSReg (s : State) : SReg → Word → State
  | .ds1, v => { s with ds1 := v } | .ps, v => { s with ps := v }
  | .ss, v => { s with ss := v } | .ds0, v => { s with ds0 := v }

/-! ## The other pieces of state, one update each -/

def setPc (s : State) (v : Word) : State := { s with pc := v }

def setPsw (s : State) (v : Word) : State := { s with psw := v }

def setMemory (s : State) (m : Mem) : State := { s with memory := m }

def setExtended (s : State) (m : Mem) : State := { s with extended := m }

def setPorts (s : State) (m : Mem) : State := { s with ports := m }

def setSegOverride (s : State) (o : Option SReg) : State := { s with segOverride := o }

def setLastOpcode (s : State) (b : Byte) : State := { s with lastOpcode := b }

def setClock (s : State) (n : Nat) : State := { s with clock := n }

def setHalted (s : State) (h : Option Fault) : State := { s with halted := h }

/-- One entry of the output trace (R29). -/
def record (s : State) (p : Word) (v : Byte) : State := { s with trace := s.trace ++ [(p, v)] }

/-! ## Ports (20_memory.md R49, R50) -/

/-- `PortRead(p, 1)`. -/
def portRead8 (s : State) (p : Word) : Byte := Mem.read s.ports p.toNat

/-- `PortRead(p, 2)`: port `p` low, port `p + 1` high, modulo 2^16. -/
def portRead16 (s : State) (p : Word) : Word := wordOf (s.portRead8 (p + 1)) (s.portRead8 p)

/-- `PortWrite(p, 1, v)`. -/
def portWrite8 (s : State) (p : Word) (v : Byte) : State := s.setPorts (Mem.write s.ports p.toNat v)

/-- `PortWrite(p, 2, v)`: low byte to `p`, then high byte to `p + 1` modulo 2^16. -/
def portWrite16 (s : State) (p : Word) (v : Word) : State :=
  (s.portWrite8 p (loByte v)).portWrite8 (p + 1) (hiByte v)

/-- `Output(p, 1, v)`: the port write, then one trace entry. -/
def output8 (s : State) (p : Word) (v : Byte) : State :=
  (s.portWrite8 p v).record p v

/-- `Output(p, 2, v)`: two byte outputs, low byte first. -/
def output16 (s : State) (p : Word) (v : Word) : State :=
  (s.output8 p (loByte v)).output8 (p + 1) (hiByte v)

/-- The extended-addressing flag: `(ports[XA_PORT] & XA_MASK) != 0` (R24). -/
def xa (s : State) : Bool := s.portRead8 s.cfg.xaPort &&& s.cfg.xaMask != 0

/-- The flip of BRKXA and RETXA: `ports[XA_PORT] <- ports[XA_PORT] ^ XA_MASK`, no output (R271). -/
def flipXa (s : State) : State := s.portWrite8 s.cfg.xaPort (s.portRead8 s.cfg.xaPort ^^^ s.cfg.xaMask)

end State

/-! ## Physical memory (20_memory.md R41, R42) -/

/-- `Phys(seg, off) = (seg * 16 + off) mod 0x100000`. -/
def phys (seg off : Word) : Nat := (seg.toNat * 16 + off.toNat) % 0x100000

namespace State

/-- Whether the bank select redirects a physical address to extended memory. -/
def selectsExtended (s : State) (a : Nat) : Bool := s.xa && decide (a < Config.extSize)

/-- `PhysRead8(a)`. -/
def physRead (s : State) (a : Nat) : Byte :=
  if s.selectsExtended a then Mem.read s.extended a else Mem.read s.memory a

/-- `PhysWrite8(a, v)`. -/
def physWrite (s : State) (a : Nat) (v : Byte) : State :=
  if s.selectsExtended a then s.setExtended (Mem.write s.extended a v)
  else s.setMemory (Mem.write s.memory a v)

/-! ## Data accesses (20_memory.md R43): the second byte's offset wraps in 16 bits -/

/-- `MemRead(seg, off, 1)`. -/
def memRead8 (s : State) (seg off : Word) : Byte := s.physRead (phys seg off)

/-- `MemRead(seg, off, 2)`. -/
def memRead16 (s : State) (seg off : Word) : Word := wordOf (s.memRead8 seg (off + 1)) (s.memRead8 seg off)

/-- `MemWrite(seg, off, 1, v)`. -/
def memWrite8 (s : State) (seg off : Word) (v : Byte) : State := s.physWrite (phys seg off) v

/-- `MemWrite(seg, off, 2, v)`: low byte first. -/
def memWrite16 (s : State) (seg off : Word) (v : Word) : State :=
  (s.memWrite8 seg off (loByte v)).memWrite8 seg (off + 1) (hiByte v)

/-- The 32-bit entry at a physical address, low word first (R271): (PC, PS). -/
def vectorAt (s : State) (a : Nat) : Word × Word :=
  (wordOf (s.physRead (a + 1)) (s.physRead a), wordOf (s.physRead (a + 3)) (s.physRead (a + 2)))

/-! ## Stack (20_memory.md R47, R48) -/

/-- `Push16(v)`: StackOverflow with SP before anything changes, or the state after the push. -/
def push16 (s : State) (v : Word) : Except Fault State :=
  if s.sp.toNat < 2 then .error (.stackOverflow s.sp)
  else .ok ((s.setReg16 .sp (s.sp - 2)).memWrite16 s.ss (s.sp - 2) v)

/-- `Pop16()`: the word at SS:SP and the state with SP moved up, modulo 2^16. -/
def pop16 (s : State) : Word × State := (s.memRead16 s.ss s.sp, s.setReg16 .sp (s.sp + 2))

/-! ## Raising a fault (60_exceptions.md R300, R30; log 1)

The one shared operation. Nothing is saved, no vector is fetched, no register changes; what the rule had changed before the
raise stands in the state given. There is no return from a fault (R311). -/

/-- `raise <Fault>(info)`. -/
def raise (s : State) (f : Fault) : Result := .next (s.setHalted (some f))

/-- A target relative to PC, which is already past the instruction (30_encoding.md R75). -/
def branch (s : State) (disp : Word) : State := s.setPc (s.pc + disp)

/-- A far target: new segment and offset. -/
def farJump (s : State) (seg off : Word) : State := (s.setSReg .ps seg).setPc off

end State

end Sys2Proof.Machine
end

