-- ==== Sys2Proof/Machine/Operands.lean ====
section
/-! DEFINITION. The data segment (20_memory.md R44) and the addressing-mode resolver (30_encoding.md R72 to R74). -/

namespace Sys2Proof.Machine

namespace State

/-- `DataSeg()`: the override latch if set, else DS0, for every mode (R44). -/
def dataSeg (s : State) : Word := s.sreg (s.segOverride.getD .ds0)

/-- The base register combination of a memory field (R73). -/
def baseSum (s : State) : Base → Word
  | .bwIx => s.bw + s.ix | .bwIy => s.bw + s.iy | .bpIx => s.bp + s.ix | .bpIy => s.bp + s.iy
  | .ix => s.ix | .iy => s.iy | .bp => s.bp | .bw => s.bw

end State

/-- A resolved operand: a register, or memory at a segment value and an offset, fixed once per instruction (R74). -/
inductive Place (ρ : Type) where
  | reg (r : ρ)
  | mem (seg off : Word)
  deriving DecidableEq, Repr

/-- `ResolveRM`: the offset from the current BW, BP, IX, IY, modulo 2^16, and the segment (R73, R74). -/
def resolve {ρ : Type} (s : State) : RM ρ → Place ρ
  | .reg r => .reg r
  | .mem b => .mem s.dataSeg (s.baseSum b)
  | .direct a => .mem s.dataSeg a
  | .mem8 b d => .mem s.dataSeg (s.baseSum b + sext16 d)
  | .mem16 b d => .mem s.dataSeg (s.baseSum b + d)

namespace State

/-- `ReadRM(x, 8)`. -/
def read8 (s : State) : Place Reg8 → Byte
  | .reg r => s.reg8 r
  | .mem seg off => s.memRead8 seg off

/-- `ReadRM(x, 16)`. -/
def read16 (s : State) : Place Reg16 → Word
  | .reg r => s.reg16 r
  | .mem seg off => s.memRead16 seg off

/-- `WriteRM(x, 8, v)`. -/
def write8 (s : State) : Place Reg8 → Byte → State
  | .reg r, v => s.setReg8 r v
  | .mem seg off, v => s.memWrite8 seg off v

/-- `WriteRM(x, 16, v)`. -/
def write16 (s : State) : Place Reg16 → Word → State
  | .reg r, v => s.setReg16 r v
  | .mem seg off, v => s.memWrite16 seg off v

end State

end Sys2Proof.Machine
end

