-- ==== Sys2Proof/Machine/Cycles.lean ====
section
/-! DEFINITION. The cycle cost of a step: the open parameter CYCLES under the constraints of 70_reset_and_hazards.md R345
(log 3, log 4). -/

namespace Sys2Proof.Machine

/-- The physical address of a memory operand. -/
def Place.address {ρ : Type} : Place ρ → Option Nat
  | .reg _ => none
  | .mem seg off => some (phys seg off)

/-- The physical address of the instruction's word r/m or direct-address operand, where it is in memory. -/
def operandAddress (i : Instr) (s : State) : Option Nat :=
  match i with
  | .addRm16Reg16 rm _ | .addReg16Rm16 _ rm | .orRm16Reg16 rm _ | .orReg16Rm16 _ rm | .andRm16Reg16 rm _
    | .andReg16Rm16 _ rm | .subRm16Reg16 rm _ | .subReg16Rm16 _ rm | .xorRm16Reg16 rm _ | .xorReg16Rm16 _ rm
    | .cmpRm16Reg16 rm _ | .cmpReg16Rm16 _ rm | .addRm16Imm16 rm _ | .orRm16Imm16 rm _ | .andRm16Imm16 rm _
    | .subRm16Imm16 rm _ | .xorRm16Imm16 rm _ | .cmpRm16Imm16 rm _ | .addRm16Simm8 rm _ | .orRm16Simm8 rm _
    | .andRm16Simm8 rm _ | .subRm16Simm8 rm _ | .xorRm16Simm8 rm _ | .cmpRm16Simm8 rm _ | .movRm16Reg16 rm _
    | .movReg16Rm16 _ rm | .movRm16Sreg rm _ | .movDs1Rm16 rm | .movSsDs0Rm16 _ rm | .rolRm16Imm8 rm _
    | .rorRm16Imm8 rm _ | .rolcRm16Imm8 rm _ | .rorcRm16Imm8 rm _ | .shlRm16Imm8 rm _ | .shrRm16Imm8 rm _
    | .shraRm16Imm8 rm _ | .movRm16Imm16 rm _ | .rolRm16One rm | .rorRm16One rm | .rolcRm16One rm | .rorcRm16One rm
    | .shlRm16One rm | .shrRm16One rm | .shraRm16One rm | .rolRm16Cl rm | .rorRm16Cl rm | .rolcRm16Cl rm
    | .rorcRm16Cl rm | .shlRm16Cl rm | .shrRm16Cl rm | .shraRm16Cl rm | .divuRm16 rm | .divRm16 rm =>
      (resolve s rm).address
  | .movAwDirect addr | .movDirectAw addr => some (phys s.dataSeg addr)
  | .addRm8Reg8 _ _ | .addReg8Rm8 _ _ | .addAlImm8 _ | .addAwImm16 _ | .pushDs1 | .popDs1 | .orRm8Reg8 _ _
    | .orReg8Rm8 _ _ | .orAlImm8 _ | .orAwImm16 _ | .pushPs | .escUnimp00 _ | .escUnimp80 _ | .escUnimpC0 _
    | .brkxa _ | .escUnimpE1 | .escUnimpE2 _ | .escUnimpE4 _ | .escUnimpE8 _ | .retxa _ | .escUnimpF1
    | .escUnimpF2 _ | .escUnimpF4 _ | .escUnimpF8 _ | .unimp10 | .unimp11 | .unimp12 | .unimp13 | .unimp14
    | .unimp15 | .pushSs | .popSs | .unimp18 | .unimp19 | .unimp1A | .unimp1B | .unimp1C | .unimp1D | .pushDs0
    | .popDs0 | .andRm8Reg8 _ _ | .andReg8Rm8 _ _ | .andAlImm8 _ | .andAwImm16 _ | .prefixDs1 | .unimp27
    | .subRm8Reg8 _ _ | .subReg8Rm8 _ _ | .subAlImm8 _ | .subAwImm16 _ | .prefixPs | .unimp2F | .xorRm8Reg8 _ _
    | .xorReg8Rm8 _ _ | .xorAlImm8 _ | .xorAwImm16 _ | .prefixSs | .unimp37 | .cmpRm8Reg8 _ _ | .cmpReg8Rm8 _ _
    | .cmpAlImm8 _ | .cmpAwImm16 _ | .prefixDs0 | .unimp3F | .incReg16 _ | .decReg16 _ | .pushReg16 _ | .popReg16 _
    | .unimp60 | .unimp61 | .unimp62 | .unimp63 | .unimp64 | .unimp65 | .unimp66 | .unimp67 | .unimp68 | .unimp69
    | .unimp6A | .unimp6B | .inmByte | .inmWord | .outmByte | .outmWord | .bv _ | .bnv _ | .bc _ | .bnc _ | .be _
    | .bne _ | .bnh _ | .bh _ | .bn _ | .bp _ | .bpe _ | .bpo _ | .blt _ | .bge _ | .ble _ | .bgt _
    | .addRm8Imm8 _ _ | .orRm8Imm8 _ _ | .addcRm8Imm8Unimp _ | .subcRm8Imm8Unimp _ | .andRm8Imm8 _ _
    | .subRm8Imm8 _ _ | .xorRm8Imm8 _ _ | .cmpRm8Imm8 _ _ | .addcRm16Imm16Unimp _ | .subcRm16Imm16Unimp _
    | .unimp82 | .addcRm16Simm8Unimp _ | .subcRm16Simm8Unimp _ | .unimp84 | .unimp85 | .unimp86 | .unimp87
    | .movRm8Reg8 _ _ | .movReg8Rm8 _ _ | .movRm16SregUndef _ _ | .unimp8D | .movPsRm16Undef _
    | .movSregRm16Undef _ _ | .unimp8F | .unimp90 | .unimp91 | .unimp92 | .unimp93 | .unimp94 | .unimp95 | .unimp96
    | .unimp97 | .unimp98 | .unimp99 | .callFar _ _ | .unimp9B | .pushPsw | .popPsw | .unimp9E | .unimp9F
    | .movAlDirect _ | .movDirectAl _ | .movbkByte | .movbkWord | .cmpbkByteUnimp | .cmpbkWordUnimp | .unimpA8
    | .unimpA9 | .stmByte | .stmWord | .ldmByte | .ldmWord | .cmpmByteUnimp | .cmpmWordUnimp | .movReg8Imm8 _ _
    | .movReg16Imm16 _ _ | .rolRm8Imm8 _ _ | .rorRm8Imm8 _ _ | .rolcRm8Imm8 _ _ | .rorcRm8Imm8 _ _
    | .shlRm8Imm8 _ _ | .shrRm8Imm8 _ _ | .shiftC0Undef _ | .shraRm8Imm8 _ _ | .shiftC1Undef _ | .unimpC2
    | .retNear | .unimpC4 | .unimpC5 | .movRm8Imm8 _ _ | .movC6Undef1 _ | .movC6Undef2to3 _ _ | .movC6Undef4to7 _ _
    | .movC7Undef1 _ | .movC7Undef2to3 _ _ | .movC7Undef4to7 _ _ | .unimpC8 | .unimpC9 | .unimpCA | .retFar
    | .unimpCC | .unimpCD | .unimpCE | .unimpCF | .rolRm8One _ | .rorRm8One _ | .rolcRm8One _ | .rorcRm8One _
    | .shlRm8One _ | .shrRm8One _ | .shiftD0Undef _ | .shraRm8One _ | .shiftD1Undef _ | .rolRm8Cl _ | .rorRm8Cl _
    | .rolcRm8Cl _ | .rorcRm8Cl _ | .shlRm8Cl _ | .shrRm8Cl _ | .shiftD2Undef _ | .shraRm8Cl _ | .shiftD3Undef _
    | .unimpD4 | .unimpD5 | .unimpD6 | .unimpD7 | .unimpD8 | .unimpD9 | .unimpDA | .unimpDB | .unimpDC | .unimpDD
    | .unimpDE | .unimpDF | .unimpE0 | .unimpE1 | .unimpE2 | .unimpE3 | .inAlImm8 _ | .inAwImm8 _ | .outImm8Al _
    | .outImm8Aw _ | .callNear _ | .brNear _ | .brFar _ _ | .brShort _ | .inAlDw | .inAwDw | .outDwAl | .outDwAw
    | .unimpF0 | .unimpF1 | .unimpF2 | .repUnimp00 _ | .repUnimp40 _ | .repUnimp60 _ | .repUnimp68 _ | .repInmByte
    | .repInmWord | .repOutmByte | .repOutmWord | .repUnimp70 _ | .repUnimp80 _ | .repUnimpA0 _ | .repMovbkByte
    | .repMovbkWord | .repCmpbkByteUnimp | .repCmpbkWordUnimp | .repUnimpA8 _ | .repStmByte | .repStmWord
    | .repLdmByte | .repLdmWord | .repCmpmByteUnimp | .repCmpmWordUnimp | .repUnimpB0 _ | .repUnimpC0 _ | .unimpF4
    | .unimpF5 | .groupF6Unimp0to3 _ _ | .groupF6Unimp4to5 _ _ | .divuRm8 _ | .divRm8 _ | .groupF7Unimp0to3 _ _
    | .groupF7Unimp4to5 _ _ | .unimpF8 | .unimpF9 | .unimpFA | .unimpFB | .unimpFC | .unimpFD | .unimpFE | .unimpFF =>
      none

/-- The physical addresses of the word operands in memory that the instruction does not name: stack slots, block source and
destination. The transfers of one REP have addresses of one parity, because the offset moves by 2; without a transfer there
is no access. -/
def implicitAddresses (i : Instr) (s : State) : List Nat :=
  match i with
  | .pushDs1 | .pushPs | .pushSs | .pushDs0 | .pushReg16 _ | .pushPsw | .callNear _ => [phys s.ss (s.sp - 2)]
  | .popDs1 | .popSs | .popDs0 | .popReg16 _ | .popPsw | .retNear => [phys s.ss s.sp]
  | .inmWord | .stmWord => [phys s.ds1 s.iy]
  | .outmWord | .ldmWord => [phys s.dataSeg s.ix]
  | .callFar _ _ => [phys s.ss (s.sp - 2), phys s.ss (s.sp - 4)]
  | .movbkWord => [phys s.dataSeg s.ix, phys s.ds1 s.iy]
  | .repInmWord | .repStmWord => if s.cw = 0 then [] else [phys s.ds1 s.iy]
  | .repOutmWord | .repLdmWord => if s.cw = 0 then [] else [phys s.dataSeg s.ix]
  | .repMovbkWord => if s.cw = 0 then [] else [phys s.dataSeg s.ix, phys s.ds1 s.iy]
  | .retFar => [phys s.ss s.sp, phys s.ss (s.sp + 2)]
  | .addRm8Reg8 _ _ | .addRm16Reg16 _ _ | .addReg8Rm8 _ _ | .addReg16Rm16 _ _ | .addAlImm8 _ | .addAwImm16 _
    | .orRm8Reg8 _ _ | .orRm16Reg16 _ _ | .orReg8Rm8 _ _ | .orReg16Rm16 _ _ | .orAlImm8 _ | .orAwImm16 _
    | .escUnimp00 _ | .escUnimp80 _ | .escUnimpC0 _ | .brkxa _ | .escUnimpE1 | .escUnimpE2 _ | .escUnimpE4 _
    | .escUnimpE8 _ | .retxa _ | .escUnimpF1 | .escUnimpF2 _ | .escUnimpF4 _ | .escUnimpF8 _ | .unimp10 | .unimp11
    | .unimp12 | .unimp13 | .unimp14 | .unimp15 | .unimp18 | .unimp19 | .unimp1A | .unimp1B | .unimp1C | .unimp1D
    | .andRm8Reg8 _ _ | .andRm16Reg16 _ _ | .andReg8Rm8 _ _ | .andReg16Rm16 _ _ | .andAlImm8 _ | .andAwImm16 _
    | .prefixDs1 | .unimp27 | .subRm8Reg8 _ _ | .subRm16Reg16 _ _ | .subReg8Rm8 _ _ | .subReg16Rm16 _ _
    | .subAlImm8 _ | .subAwImm16 _ | .prefixPs | .unimp2F | .xorRm8Reg8 _ _ | .xorRm16Reg16 _ _ | .xorReg8Rm8 _ _
    | .xorReg16Rm16 _ _ | .xorAlImm8 _ | .xorAwImm16 _ | .prefixSs | .unimp37 | .cmpRm8Reg8 _ _ | .cmpRm16Reg16 _ _
    | .cmpReg8Rm8 _ _ | .cmpReg16Rm16 _ _ | .cmpAlImm8 _ | .cmpAwImm16 _ | .prefixDs0 | .unimp3F | .incReg16 _
    | .decReg16 _ | .unimp60 | .unimp61 | .unimp62 | .unimp63 | .unimp64 | .unimp65 | .unimp66 | .unimp67
    | .unimp68 | .unimp69 | .unimp6A | .unimp6B | .inmByte | .outmByte | .bv _ | .bnv _ | .bc _ | .bnc _ | .be _
    | .bne _ | .bnh _ | .bh _ | .bn _ | .bp _ | .bpe _ | .bpo _ | .blt _ | .bge _ | .ble _ | .bgt _
    | .addRm8Imm8 _ _ | .orRm8Imm8 _ _ | .addcRm8Imm8Unimp _ | .subcRm8Imm8Unimp _ | .andRm8Imm8 _ _
    | .subRm8Imm8 _ _ | .xorRm8Imm8 _ _ | .cmpRm8Imm8 _ _ | .addRm16Imm16 _ _ | .orRm16Imm16 _ _
    | .addcRm16Imm16Unimp _ | .subcRm16Imm16Unimp _ | .andRm16Imm16 _ _ | .subRm16Imm16 _ _ | .xorRm16Imm16 _ _
    | .cmpRm16Imm16 _ _ | .unimp82 | .addRm16Simm8 _ _ | .orRm16Simm8 _ _ | .addcRm16Simm8Unimp _
    | .subcRm16Simm8Unimp _ | .andRm16Simm8 _ _ | .subRm16Simm8 _ _ | .xorRm16Simm8 _ _ | .cmpRm16Simm8 _ _
    | .unimp84 | .unimp85 | .unimp86 | .unimp87 | .movRm8Reg8 _ _ | .movRm16Reg16 _ _ | .movReg8Rm8 _ _
    | .movReg16Rm16 _ _ | .movRm16Sreg _ _ | .movRm16SregUndef _ _ | .unimp8D | .movDs1Rm16 _ | .movPsRm16Undef _
    | .movSsDs0Rm16 _ _ | .movSregRm16Undef _ _ | .unimp8F | .unimp90 | .unimp91 | .unimp92 | .unimp93 | .unimp94
    | .unimp95 | .unimp96 | .unimp97 | .unimp98 | .unimp99 | .unimp9B | .unimp9E | .unimp9F | .movAlDirect _
    | .movAwDirect _ | .movDirectAl _ | .movDirectAw _ | .movbkByte | .cmpbkByteUnimp | .cmpbkWordUnimp | .unimpA8
    | .unimpA9 | .stmByte | .ldmByte | .cmpmByteUnimp | .cmpmWordUnimp | .movReg8Imm8 _ _ | .movReg16Imm16 _ _
    | .rolRm8Imm8 _ _ | .rorRm8Imm8 _ _ | .rolcRm8Imm8 _ _ | .rorcRm8Imm8 _ _ | .shlRm8Imm8 _ _ | .shrRm8Imm8 _ _
    | .shiftC0Undef _ | .shraRm8Imm8 _ _ | .rolRm16Imm8 _ _ | .rorRm16Imm8 _ _ | .rolcRm16Imm8 _ _
    | .rorcRm16Imm8 _ _ | .shlRm16Imm8 _ _ | .shrRm16Imm8 _ _ | .shiftC1Undef _ | .shraRm16Imm8 _ _ | .unimpC2
    | .unimpC4 | .unimpC5 | .movRm8Imm8 _ _ | .movC6Undef1 _ | .movC6Undef2to3 _ _ | .movC6Undef4to7 _ _
    | .movRm16Imm16 _ _ | .movC7Undef1 _ | .movC7Undef2to3 _ _ | .movC7Undef4to7 _ _ | .unimpC8 | .unimpC9
    | .unimpCA | .unimpCC | .unimpCD | .unimpCE | .unimpCF | .rolRm8One _ | .rorRm8One _ | .rolcRm8One _
    | .rorcRm8One _ | .shlRm8One _ | .shrRm8One _ | .shiftD0Undef _ | .shraRm8One _ | .rolRm16One _ | .rorRm16One _
    | .rolcRm16One _ | .rorcRm16One _ | .shlRm16One _ | .shrRm16One _ | .shiftD1Undef _ | .shraRm16One _
    | .rolRm8Cl _ | .rorRm8Cl _ | .rolcRm8Cl _ | .rorcRm8Cl _ | .shlRm8Cl _ | .shrRm8Cl _ | .shiftD2Undef _
    | .shraRm8Cl _ | .rolRm16Cl _ | .rorRm16Cl _ | .rolcRm16Cl _ | .rorcRm16Cl _ | .shlRm16Cl _ | .shrRm16Cl _
    | .shiftD3Undef _ | .shraRm16Cl _ | .unimpD4 | .unimpD5 | .unimpD6 | .unimpD7 | .unimpD8 | .unimpD9 | .unimpDA
    | .unimpDB | .unimpDC | .unimpDD | .unimpDE | .unimpDF | .unimpE0 | .unimpE1 | .unimpE2 | .unimpE3
    | .inAlImm8 _ | .inAwImm8 _ | .outImm8Al _ | .outImm8Aw _ | .brNear _ | .brFar _ _ | .brShort _ | .inAlDw
    | .inAwDw | .outDwAl | .outDwAw | .unimpF0 | .unimpF1 | .unimpF2 | .repUnimp00 _ | .repUnimp40 _
    | .repUnimp60 _ | .repUnimp68 _ | .repInmByte | .repOutmByte | .repUnimp70 _ | .repUnimp80 _ | .repUnimpA0 _
    | .repMovbkByte | .repCmpbkByteUnimp | .repCmpbkWordUnimp | .repUnimpA8 _ | .repStmByte | .repLdmByte
    | .repCmpmByteUnimp | .repCmpmWordUnimp | .repUnimpB0 _ | .repUnimpC0 _ | .unimpF4 | .unimpF5
    | .groupF6Unimp0to3 _ _ | .groupF6Unimp4to5 _ _ | .divuRm8 _ | .divRm8 _ | .groupF7Unimp0to3 _ _
    | .groupF7Unimp4to5 _ _ | .divuRm16 _ | .divRm16 _ | .unimpF8 | .unimpF9 | .unimpFA | .unimpFB | .unimpFC
    | .unimpFD | .unimpFE | .unimpFF => []

/-- The number of REP repetitions. -/
def repetitions (i : Instr) (s : State) : Nat :=
  match i with
  | .repInmByte | .repInmWord | .repOutmByte | .repOutmWord | .repMovbkByte | .repMovbkWord | .repStmByte
    | .repStmWord | .repLdmByte | .repLdmWord => s.cw.toNat
  | .addRm8Reg8 _ _ | .addRm16Reg16 _ _ | .addReg8Rm8 _ _ | .addReg16Rm16 _ _ | .addAlImm8 _ | .addAwImm16 _
    | .pushDs1 | .popDs1 | .orRm8Reg8 _ _ | .orRm16Reg16 _ _ | .orReg8Rm8 _ _ | .orReg16Rm16 _ _ | .orAlImm8 _
    | .orAwImm16 _ | .pushPs | .escUnimp00 _ | .escUnimp80 _ | .escUnimpC0 _ | .brkxa _ | .escUnimpE1
    | .escUnimpE2 _ | .escUnimpE4 _ | .escUnimpE8 _ | .retxa _ | .escUnimpF1 | .escUnimpF2 _ | .escUnimpF4 _
    | .escUnimpF8 _ | .unimp10 | .unimp11 | .unimp12 | .unimp13 | .unimp14 | .unimp15 | .pushSs | .popSs | .unimp18
    | .unimp19 | .unimp1A | .unimp1B | .unimp1C | .unimp1D | .pushDs0 | .popDs0 | .andRm8Reg8 _ _
    | .andRm16Reg16 _ _ | .andReg8Rm8 _ _ | .andReg16Rm16 _ _ | .andAlImm8 _ | .andAwImm16 _ | .prefixDs1
    | .unimp27 | .subRm8Reg8 _ _ | .subRm16Reg16 _ _ | .subReg8Rm8 _ _ | .subReg16Rm16 _ _ | .subAlImm8 _
    | .subAwImm16 _ | .prefixPs | .unimp2F | .xorRm8Reg8 _ _ | .xorRm16Reg16 _ _ | .xorReg8Rm8 _ _
    | .xorReg16Rm16 _ _ | .xorAlImm8 _ | .xorAwImm16 _ | .prefixSs | .unimp37 | .cmpRm8Reg8 _ _ | .cmpRm16Reg16 _ _
    | .cmpReg8Rm8 _ _ | .cmpReg16Rm16 _ _ | .cmpAlImm8 _ | .cmpAwImm16 _ | .prefixDs0 | .unimp3F | .incReg16 _
    | .decReg16 _ | .pushReg16 _ | .popReg16 _ | .unimp60 | .unimp61 | .unimp62 | .unimp63 | .unimp64 | .unimp65
    | .unimp66 | .unimp67 | .unimp68 | .unimp69 | .unimp6A | .unimp6B | .inmByte | .inmWord | .outmByte | .outmWord
    | .bv _ | .bnv _ | .bc _ | .bnc _ | .be _ | .bne _ | .bnh _ | .bh _ | .bn _ | .bp _ | .bpe _ | .bpo _ | .blt _
    | .bge _ | .ble _ | .bgt _ | .addRm8Imm8 _ _ | .orRm8Imm8 _ _ | .addcRm8Imm8Unimp _ | .subcRm8Imm8Unimp _
    | .andRm8Imm8 _ _ | .subRm8Imm8 _ _ | .xorRm8Imm8 _ _ | .cmpRm8Imm8 _ _ | .addRm16Imm16 _ _ | .orRm16Imm16 _ _
    | .addcRm16Imm16Unimp _ | .subcRm16Imm16Unimp _ | .andRm16Imm16 _ _ | .subRm16Imm16 _ _ | .xorRm16Imm16 _ _
    | .cmpRm16Imm16 _ _ | .unimp82 | .addRm16Simm8 _ _ | .orRm16Simm8 _ _ | .addcRm16Simm8Unimp _
    | .subcRm16Simm8Unimp _ | .andRm16Simm8 _ _ | .subRm16Simm8 _ _ | .xorRm16Simm8 _ _ | .cmpRm16Simm8 _ _
    | .unimp84 | .unimp85 | .unimp86 | .unimp87 | .movRm8Reg8 _ _ | .movRm16Reg16 _ _ | .movReg8Rm8 _ _
    | .movReg16Rm16 _ _ | .movRm16Sreg _ _ | .movRm16SregUndef _ _ | .unimp8D | .movDs1Rm16 _ | .movPsRm16Undef _
    | .movSsDs0Rm16 _ _ | .movSregRm16Undef _ _ | .unimp8F | .unimp90 | .unimp91 | .unimp92 | .unimp93 | .unimp94
    | .unimp95 | .unimp96 | .unimp97 | .unimp98 | .unimp99 | .callFar _ _ | .unimp9B | .pushPsw | .popPsw
    | .unimp9E | .unimp9F | .movAlDirect _ | .movAwDirect _ | .movDirectAl _ | .movDirectAw _ | .movbkByte
    | .movbkWord | .cmpbkByteUnimp | .cmpbkWordUnimp | .unimpA8 | .unimpA9 | .stmByte | .stmWord | .ldmByte
    | .ldmWord | .cmpmByteUnimp | .cmpmWordUnimp | .movReg8Imm8 _ _ | .movReg16Imm16 _ _ | .rolRm8Imm8 _ _
    | .rorRm8Imm8 _ _ | .rolcRm8Imm8 _ _ | .rorcRm8Imm8 _ _ | .shlRm8Imm8 _ _ | .shrRm8Imm8 _ _ | .shiftC0Undef _
    | .shraRm8Imm8 _ _ | .rolRm16Imm8 _ _ | .rorRm16Imm8 _ _ | .rolcRm16Imm8 _ _ | .rorcRm16Imm8 _ _
    | .shlRm16Imm8 _ _ | .shrRm16Imm8 _ _ | .shiftC1Undef _ | .shraRm16Imm8 _ _ | .unimpC2 | .retNear | .unimpC4
    | .unimpC5 | .movRm8Imm8 _ _ | .movC6Undef1 _ | .movC6Undef2to3 _ _ | .movC6Undef4to7 _ _ | .movRm16Imm16 _ _
    | .movC7Undef1 _ | .movC7Undef2to3 _ _ | .movC7Undef4to7 _ _ | .unimpC8 | .unimpC9 | .unimpCA | .retFar
    | .unimpCC | .unimpCD | .unimpCE | .unimpCF | .rolRm8One _ | .rorRm8One _ | .rolcRm8One _ | .rorcRm8One _
    | .shlRm8One _ | .shrRm8One _ | .shiftD0Undef _ | .shraRm8One _ | .rolRm16One _ | .rorRm16One _
    | .rolcRm16One _ | .rorcRm16One _ | .shlRm16One _ | .shrRm16One _ | .shiftD1Undef _ | .shraRm16One _
    | .rolRm8Cl _ | .rorRm8Cl _ | .rolcRm8Cl _ | .rorcRm8Cl _ | .shlRm8Cl _ | .shrRm8Cl _ | .shiftD2Undef _
    | .shraRm8Cl _ | .rolRm16Cl _ | .rorRm16Cl _ | .rolcRm16Cl _ | .rorcRm16Cl _ | .shlRm16Cl _ | .shrRm16Cl _
    | .shiftD3Undef _ | .shraRm16Cl _ | .unimpD4 | .unimpD5 | .unimpD6 | .unimpD7 | .unimpD8 | .unimpD9 | .unimpDA
    | .unimpDB | .unimpDC | .unimpDD | .unimpDE | .unimpDF | .unimpE0 | .unimpE1 | .unimpE2 | .unimpE3
    | .inAlImm8 _ | .inAwImm8 _ | .outImm8Al _ | .outImm8Aw _ | .callNear _ | .brNear _ | .brFar _ _ | .brShort _
    | .inAlDw | .inAwDw | .outDwAl | .outDwAw | .unimpF0 | .unimpF1 | .unimpF2 | .repUnimp00 _ | .repUnimp40 _
    | .repUnimp60 _ | .repUnimp68 _ | .repUnimp70 _ | .repUnimp80 _ | .repUnimpA0 _ | .repCmpbkByteUnimp
    | .repCmpbkWordUnimp | .repUnimpA8 _ | .repCmpmByteUnimp | .repCmpmWordUnimp | .repUnimpB0 _ | .repUnimpC0 _
    | .unimpF4 | .unimpF5 | .groupF6Unimp0to3 _ _ | .groupF6Unimp4to5 _ _ | .divuRm8 _ | .divRm8 _
    | .groupF7Unimp0to3 _ _ | .groupF7Unimp4to5 _ _ | .divuRm16 _ | .divRm16 _ | .unimpF8 | .unimpF9 | .unimpFA
    | .unimpFB | .unimpFC | .unimpFD | .unimpFE | .unimpFF => 0

/-- The physical addresses of every word operand in memory. -/
def wordAddresses (i : Instr) (s : State) : List Nat :=
  (operandAddress i s).toList ++ implicitAddresses i s

/-- "Odd" refers to the physical address (20_memory.md R45). -/
def isOdd (a : Nat) : Bool := a % 2 == 1

/-! ## The entry of the cycle table -/

/-- What the rule calls the opcode and the "ModRM byte if any": the first byte, and the second where it is a ModRM byte, the
sub-opcode after 0F or the opcode after F3. -/
abbrev CycleKey := Byte × Option Byte

/-- The first bytes whose second byte belongs to the entry (30_encoding.md R77 to R79). -/
def hasSecondByte (op : Byte) : Bool :=
  [0x00, 0x01, 0x02, 0x03, 0x08, 0x09, 0x0A, 0x0B, 0x20, 0x21, 0x22, 0x23, 0x28, 0x29, 0x2A, 0x2B, 0x30, 0x31, 0x32, 0x33,
    0x38, 0x39, 0x3A, 0x3B, 0x80, 0x81, 0x83, 0x88, 0x89, 0x8A, 0x8B, 0x8C, 0x8E, 0xC0, 0xC1, 0xC6, 0xC7, 0xD0, 0xD1, 0xD2,
    0xD3, 0xF6, 0xF7, 0x0F, 0xF3].contains op

/-- The entry of an instruction: no displacement, no immediate and no address is part of it. -/
def cycleKey (i : Instr) : CycleKey :=
  match encode i with
  | op :: second :: _ => (op, if hasSecondByte op then some second else none)
  | [op] => (op, none)
  | [] => (0, none)

/-! ## The total of the source's scenario (R345 (c)) -/

/-- The entries of the scenario's steps, five or six of them (90_conflicts.md C3): MOV DW,imm16; MOV AW,imm16; MOV DS1,AW;
MOV IY,imm16; the prefix DS1:; ADD [IY],DW. -/
def scenarioKeys : List CycleKey :=
  [(0xBA, none), (0xB8, none), (0x8E, some 0xC0), (0xBF, none), (0x26, none)] ++
    (if Config.scenarioHasSixSteps then [(0x01, some 0x15)] else [])

/-- `total` shared out: each wish is granted as far as the rest goes, and the last takes the rest. -/
def share (total : Nat) : List Nat → List Nat
  | [] => []
  | [_] => [total]
  | wish :: next :: wishes => min wish total :: share (total - min wish total) (next :: wishes)

/-- What the scenario's steps cost beyond one cycle each, so that they cost 23 together. -/
def scenarioCosts : List (CycleKey × Nat) :=
  scenarioKeys.zip (share (23 - scenarioKeys.length) (scenarioKeys.map fun k => Config.baseCycles k.1 k.2 0))

/-- The cost of an entry beyond one cycle, with every word operand at an even address. -/
def evenCost (key : CycleKey) (reps : Nat) : Nat := (scenarioCosts.lookup key).getD (Config.baseCycles key.1 key.2 reps)

/-- What the word operands at odd addresses cost beyond the same at even ones; `k` counts the operands. -/
def oddCost (key : CycleKey) (reps : Nat) : Nat → List Nat → Nat
  | _, [] => 0
  | k, a :: rest => (if isOdd a then 1 + Config.oddPenalty key.1 key.2 reps k else 0) + oddCost key reps (k + 1) rest

/-- The cycle cost of executing `i` in `s`: a function of the entry, the repetitions and the parities, at least 1 (R345 (a)),
and strictly more for a word memory operand at an odd address than for the same access at an even one (R345 (b)). -/
def cycles (i : Instr) (s : State) : Nat :=
  1 + evenCost (cycleKey i) (repetitions i s) + oddCost (cycleKey i) (repetitions i s) 0 (wordAddresses i s)

end Sys2Proof.Machine
end

