-- ==== Sys2Proof/Machine/Flags.lean ====
section
/-! DEFINITION. The nine flags of the PSW and the two composite setters (10_state.md R15, R18, R19). -/

namespace Sys2Proof.Machine

/-- The nine flags (R15). -/
inductive Flag where
  | cy | p | ac | z | s | brk | ie | dir | v
  deriving DecidableEq, Repr

/-- The bit position of a flag (R15). -/
def Flag.bit : Flag → Nat
  | .cy => 0 | .p => 2 | .ac => 4 | .z => 6 | .s => 7 | .brk => 8 | .ie => 9 | .dir => 10 | .v => 11

/-- A PSW with only this flag's bit set. -/
def Flag.mask (f : Flag) : Word := 1 <<< f.bit

/-- "get returns boolean from a fixed bit index" (R15). -/
def getFlag (psw : Word) (f : Flag) : Bool := psw.getLsbD f.bit

/-- "set ORs or ANDs the corresponding bit into the PSW" (R15). -/
def setFlag (psw : Word) (f : Flag) (b : Bool) : Word :=
  if b then psw ||| f.mask else psw &&& ~~~f.mask

/-- A flag of the state. -/
def State.flag (s : State) (f : Flag) : Bool := getFlag s.psw f

/-- The number of one bits of a byte (00_scope.md R7). -/
def popcount (b : Byte) : Nat := ((List.range 8).filter fun i => b.getLsbD i).length

/-- `popcount(r[7:0]) mod 2 == 0`: "Parity is computed over the low 8 bits only" (R18). -/
def parityEven {w : Nat} (r : BitVec w) : Bool := popcount (r.setWidth 8) % 2 == 0

/-- `SetPZS_W(r)` (R18). -/
def setPZS {w : Nat} (psw : Word) (r : BitVec w) : Word :=
  setFlag (setFlag (setFlag psw .p (parityEven r)) .z (r == 0)) .s r.msb

/-- `SetPZSCYV_W(r, cy, v)` (R19). -/
def setPZSCYV {w : Nat} (psw : Word) (r : BitVec w) (cy v : Bool) : Word :=
  setFlag (setFlag (setPZS psw r) .cy cy) .v v

/-! ## Carry and overflow of the operations (41_arithmetic_logic.md R111, R114, R118, R119, R120) -/

/-- Carry out of an addition: the unbounded sum does not fit (R111). -/
def addCarry {w : Nat} (a b : BitVec w) : Bool := decide (2 ^ w ≤ a.toNat + b.toNat)

/-- Signed overflow of an addition: the exact signed sum is not the signed result (R111). -/
def addOverflow {w : Nat} (a b : BitVec w) : Bool := a.toInt + b.toInt != (a + b).toInt

/-- Borrow of a subtraction: `a < b` as unsigned values (R114). -/
def subBorrow {w : Nat} (a b : BitVec w) : Bool := decide (a.toNat < b.toNat)

/-- Signed overflow of a subtraction (R114). -/
def subOverflow {w : Nat} (a b : BitVec w) : Bool := a.toInt - b.toInt != (a - b).toInt

/-! ## The flags of the shift and rotate group for a count of 1 or more (47_shift_rotate.md R259) -/

/-- V: "the sign bit changes as a result of the shift", the final result against the original operand. -/
def shiftOverflow {w : Nat} (a r : BitVec w) : Bool := r.msb != a.msb

/-- The rotates write CY and V only. -/
def rotateFlags {w : Nat} (psw : Word) (a r : BitVec w) (cy : Bool) : Word :=
  setFlag (setFlag psw .cy cy) .v (shiftOverflow a r)

/-- The shifts write CY, V, P, Z, S. -/
def shiftFlags {w : Nat} (psw : Word) (a r : BitVec w) (cy : Bool) : Word :=
  setPZS (rotateFlags psw a r cy) r

end Sys2Proof.Machine
end

