-- ==== Sys2Proof/Machine/Arith.lean ====
section
/-! DEFINITION. Arithmetic and logic: ADD, OR, AND, SUB, XOR, CMP in nine forms each, INC and DEC
(41_arithmetic_logic.md R110 to R120). -/

namespace Sys2Proof.Machine

/-- The six two-operand operations (R110). -/
inductive AluOp where
  | add | or | and | sub | xor | cmp
  deriving DecidableEq, Repr

/-- The result `r` of an operation, modulo 2^W (R111 to R116). -/
def aluValue {w : Nat} (op : AluOp) (a b : BitVec w) : BitVec w :=
  match op with
  | .add => a + b
  | .or => a ||| b
  | .and => a &&& b
  | .sub | .cmp => a - b
  | .xor => a ^^^ b

/-- The PSW after an operation: the logical ones leave CY and V (R112, R113, R115). -/
def aluFlags {w : Nat} (op : AluOp) (psw : Word) (a b : BitVec w) : Word :=
  match op with
  | .add => setPZSCYV psw (aluValue op a b) (addCarry a b) (addOverflow a b)
  | .sub | .cmp => setPZSCYV psw (aluValue op a b) (subBorrow a b) (subOverflow a b)
  | .or | .and | .xor => setPZS psw (aluValue op a b)

/-- "CMP computes the result for flags only and discards it" (R116). -/
def aluStores : AluOp → Bool
  | .cmp => false
  | .add | .or | .and | .sub | .xor => true

/-- `dst <- r` unless CMP, then the flags (R110), byte width. -/
def alu8 (op : AluOp) (dst : Place Reg8) (a b : Byte) (s : State) : Result :=
  let t := if aluStores op then s.write8 dst (aluValue op a b) else s
  .next (t.setPsw (aluFlags op t.psw a b))

/-- As `alu8`, word width. -/
def alu16 (op : AluOp) (dst : Place Reg16) (a b : Word) (s : State) : Result :=
  let t := if aluStores op then s.write16 dst (aluValue op a b) else s
  .next (t.setPsw (aluFlags op t.psw a b))

/-! The operand forms of R110. -/

/-- `op r/m8, reg8`. -/
def aluRmReg8 (op : AluOp) (rm : RM8) (reg : Reg8) (s : State) : Result :=
  alu8 op (resolve s rm) (s.read8 (resolve s rm)) (s.reg8 reg) s

/-- `op r/m16, reg16`. -/
def aluRmReg16 (op : AluOp) (rm : RM16) (reg : Reg16) (s : State) : Result :=
  alu16 op (resolve s rm) (s.read16 (resolve s rm)) (s.reg16 reg) s

/-- `op reg8, r/m8`. -/
def aluRegRm8 (op : AluOp) (reg : Reg8) (rm : RM8) (s : State) : Result :=
  alu8 op (.reg reg) (s.reg8 reg) (s.read8 (resolve s rm)) s

/-- `op reg16, r/m16`. -/
def aluRegRm16 (op : AluOp) (reg : Reg16) (rm : RM16) (s : State) : Result :=
  alu16 op (.reg reg) (s.reg16 reg) (s.read16 (resolve s rm)) s

/-- `op AL, imm8`. -/
def aluAlImm (op : AluOp) (imm : Byte) (s : State) : Result := alu8 op (.reg .al) (s.reg8 .al) imm s

/-- `op AW, imm16`. -/
def aluAwImm (op : AluOp) (imm : Word) (s : State) : Result := alu16 op (.reg .aw) (s.reg16 .aw) imm s

/-- `op r/m8, imm8` (group 80). -/
def aluRmImm8 (op : AluOp) (rm : RM8) (imm : Byte) (s : State) : Result :=
  alu8 op (resolve s rm) (s.read8 (resolve s rm)) imm s

/-- `op r/m16, imm16` (group 81); group 83 gives it the sign-extended byte. -/
def aluRmImm16 (op : AluOp) (rm : RM16) (imm : Word) (s : State) : Result :=
  alu16 op (resolve s rm) (s.read16 (resolve s rm)) imm s

/-- 00: ADD r/m8, reg8 (R111). -/
def execAddRm8Reg8 (rm : RM8) (reg : Reg8) (s : State) : Result := aluRmReg8 .add rm reg s

/-- 01: ADD r/m16, reg16 (R111). -/
def execAddRm16Reg16 (rm : RM16) (reg : Reg16) (s : State) : Result := aluRmReg16 .add rm reg s

/-- 02: ADD reg8, r/m8 (R111). -/
def execAddReg8Rm8 (reg : Reg8) (rm : RM8) (s : State) : Result := aluRegRm8 .add reg rm s

/-- 03: ADD reg16, r/m16 (R111). -/
def execAddReg16Rm16 (reg : Reg16) (rm : RM16) (s : State) : Result := aluRegRm16 .add reg rm s

/-- 04: ADD AL, imm8 (R111). -/
def execAddAlImm8 (imm : Byte) (s : State) : Result := aluAlImm .add imm s

/-- 05: ADD AW, imm16 (R111). -/
def execAddAwImm16 (imm : Word) (s : State) : Result := aluAwImm .add imm s

/-- 08: OR r/m8, reg8 (R112). -/
def execOrRm8Reg8 (rm : RM8) (reg : Reg8) (s : State) : Result := aluRmReg8 .or rm reg s

/-- 09: OR r/m16, reg16 (R112). -/
def execOrRm16Reg16 (rm : RM16) (reg : Reg16) (s : State) : Result := aluRmReg16 .or rm reg s

/-- 0A: OR reg8, r/m8 (R112). -/
def execOrReg8Rm8 (reg : Reg8) (rm : RM8) (s : State) : Result := aluRegRm8 .or reg rm s

/-- 0B: OR reg16, r/m16 (R112). -/
def execOrReg16Rm16 (reg : Reg16) (rm : RM16) (s : State) : Result := aluRegRm16 .or reg rm s

/-- 0C: OR AL, imm8 (R112). -/
def execOrAlImm8 (imm : Byte) (s : State) : Result := aluAlImm .or imm s

/-- 0D: OR AW, imm16 (R112). -/
def execOrAwImm16 (imm : Word) (s : State) : Result := aluAwImm .or imm s

/-- 20: AND r/m8, reg8 (R113). -/
def execAndRm8Reg8 (rm : RM8) (reg : Reg8) (s : State) : Result := aluRmReg8 .and rm reg s

/-- 21: AND r/m16, reg16 (R113). -/
def execAndRm16Reg16 (rm : RM16) (reg : Reg16) (s : State) : Result := aluRmReg16 .and rm reg s

/-- 22: AND reg8, r/m8 (R113). -/
def execAndReg8Rm8 (reg : Reg8) (rm : RM8) (s : State) : Result := aluRegRm8 .and reg rm s

/-- 23: AND reg16, r/m16 (R113). -/
def execAndReg16Rm16 (reg : Reg16) (rm : RM16) (s : State) : Result := aluRegRm16 .and reg rm s

/-- 24: AND AL, imm8 (R113). -/
def execAndAlImm8 (imm : Byte) (s : State) : Result := aluAlImm .and imm s

/-- 25: AND AW, imm16 (R113). -/
def execAndAwImm16 (imm : Word) (s : State) : Result := aluAwImm .and imm s

/-- 28: SUB r/m8, reg8 (R114). -/
def execSubRm8Reg8 (rm : RM8) (reg : Reg8) (s : State) : Result := aluRmReg8 .sub rm reg s

/-- 29: SUB r/m16, reg16 (R114). -/
def execSubRm16Reg16 (rm : RM16) (reg : Reg16) (s : State) : Result := aluRmReg16 .sub rm reg s

/-- 2A: SUB reg8, r/m8 (R114). -/
def execSubReg8Rm8 (reg : Reg8) (rm : RM8) (s : State) : Result := aluRegRm8 .sub reg rm s

/-- 2B: SUB reg16, r/m16 (R114). -/
def execSubReg16Rm16 (reg : Reg16) (rm : RM16) (s : State) : Result := aluRegRm16 .sub reg rm s

/-- 2C: SUB AL, imm8 (R114). -/
def execSubAlImm8 (imm : Byte) (s : State) : Result := aluAlImm .sub imm s

/-- 2D: SUB AW, imm16 (R114). -/
def execSubAwImm16 (imm : Word) (s : State) : Result := aluAwImm .sub imm s

/-- 30: XOR r/m8, reg8 (R115). -/
def execXorRm8Reg8 (rm : RM8) (reg : Reg8) (s : State) : Result := aluRmReg8 .xor rm reg s

/-- 31: XOR r/m16, reg16 (R115). -/
def execXorRm16Reg16 (rm : RM16) (reg : Reg16) (s : State) : Result := aluRmReg16 .xor rm reg s

/-- 32: XOR reg8, r/m8 (R115). -/
def execXorReg8Rm8 (reg : Reg8) (rm : RM8) (s : State) : Result := aluRegRm8 .xor reg rm s

/-- 33: XOR reg16, r/m16 (R115). -/
def execXorReg16Rm16 (reg : Reg16) (rm : RM16) (s : State) : Result := aluRegRm16 .xor reg rm s

/-- 34: XOR AL, imm8 (R115). -/
def execXorAlImm8 (imm : Byte) (s : State) : Result := aluAlImm .xor imm s

/-- 35: XOR AW, imm16 (R115). -/
def execXorAwImm16 (imm : Word) (s : State) : Result := aluAwImm .xor imm s

/-- 38: CMP r/m8, reg8 (R116). -/
def execCmpRm8Reg8 (rm : RM8) (reg : Reg8) (s : State) : Result := aluRmReg8 .cmp rm reg s

/-- 39: CMP r/m16, reg16 (R116). -/
def execCmpRm16Reg16 (rm : RM16) (reg : Reg16) (s : State) : Result := aluRmReg16 .cmp rm reg s

/-- 3A: CMP reg8, r/m8 (R116). -/
def execCmpReg8Rm8 (reg : Reg8) (rm : RM8) (s : State) : Result := aluRegRm8 .cmp reg rm s

/-- 3B: CMP reg16, r/m16 (R116). -/
def execCmpReg16Rm16 (reg : Reg16) (rm : RM16) (s : State) : Result := aluRegRm16 .cmp reg rm s

/-- 3C: CMP AL, imm8 (R116). -/
def execCmpAlImm8 (imm : Byte) (s : State) : Result := aluAlImm .cmp imm s

/-- 3D: CMP AW, imm16 (R116). -/
def execCmpAwImm16 (imm : Word) (s : State) : Result := aluAwImm .cmp imm s

/-- 40: INC reg16 (R118). -/
def execIncReg16 (reg : Reg16) (s : State) : Result :=
  let a := s.reg16 reg
  let t := s.setReg16 reg (a + 1)
  .next (t.setPsw (setPZSCYV t.psw (a + 1) (a == 0xFFFF) (a == 0x7FFF)))

/-- 48: DEC reg16 (R119). -/
def execDecReg16 (reg : Reg16) (s : State) : Result :=
  let a := s.reg16 reg
  let t := s.setReg16 reg (a - 1)
  .next (t.setPsw (setPZSCYV t.psw (a - 1) (a == 0x0000) (a == 0x8000)))

/-- 80: ADD r/m8, imm8 (80 /0) (R111). -/
def execAddRm8Imm8 (rm : RM8) (imm : Byte) (s : State) : Result := aluRmImm8 .add rm imm s

/-- 80: OR r/m8, imm8 (80 /1) (R112). -/
def execOrRm8Imm8 (rm : RM8) (imm : Byte) (s : State) : Result := aluRmImm8 .or rm imm s

/-- 80: AND r/m8, imm8 (80 /4) (R113). -/
def execAndRm8Imm8 (rm : RM8) (imm : Byte) (s : State) : Result := aluRmImm8 .and rm imm s

/-- 80: SUB r/m8, imm8 (80 /5) (R114). -/
def execSubRm8Imm8 (rm : RM8) (imm : Byte) (s : State) : Result := aluRmImm8 .sub rm imm s

/-- 80: XOR r/m8, imm8 (80 /6) (R115). -/
def execXorRm8Imm8 (rm : RM8) (imm : Byte) (s : State) : Result := aluRmImm8 .xor rm imm s

/-- 80: CMP r/m8, imm8 (80 /7) (R116). -/
def execCmpRm8Imm8 (rm : RM8) (imm : Byte) (s : State) : Result := aluRmImm8 .cmp rm imm s

/-- 81: ADD r/m16, imm16 (81 /0) (R111). -/
def execAddRm16Imm16 (rm : RM16) (imm : Word) (s : State) : Result := aluRmImm16 .add rm imm s

/-- 81: OR r/m16, imm16 (81 /1) (R112). -/
def execOrRm16Imm16 (rm : RM16) (imm : Word) (s : State) : Result := aluRmImm16 .or rm imm s

/-- 81: AND r/m16, imm16 (81 /4) (R113). -/
def execAndRm16Imm16 (rm : RM16) (imm : Word) (s : State) : Result := aluRmImm16 .and rm imm s

/-- 81: SUB r/m16, imm16 (81 /5) (R114). -/
def execSubRm16Imm16 (rm : RM16) (imm : Word) (s : State) : Result := aluRmImm16 .sub rm imm s

/-- 81: XOR r/m16, imm16 (81 /6) (R115). -/
def execXorRm16Imm16 (rm : RM16) (imm : Word) (s : State) : Result := aluRmImm16 .xor rm imm s

/-- 81: CMP r/m16, imm16 (81 /7) (R116). -/
def execCmpRm16Imm16 (rm : RM16) (imm : Word) (s : State) : Result := aluRmImm16 .cmp rm imm s

/-- 83: ADD r/m16, sext(imm8) (83 /0) (R111). -/
def execAddRm16Simm8 (rm : RM16) (imm : Byte) (s : State) : Result := aluRmImm16 .add rm (sext16 imm) s

/-- 83: OR r/m16, sext(imm8) (83 /1) (R112). -/
def execOrRm16Simm8 (rm : RM16) (imm : Byte) (s : State) : Result := aluRmImm16 .or rm (sext16 imm) s

/-- 83: AND r/m16, sext(imm8) (83 /4) (R113). -/
def execAndRm16Simm8 (rm : RM16) (imm : Byte) (s : State) : Result := aluRmImm16 .and rm (sext16 imm) s

/-- 83: SUB r/m16, sext(imm8) (83 /5) (R114). -/
def execSubRm16Simm8 (rm : RM16) (imm : Byte) (s : State) : Result := aluRmImm16 .sub rm (sext16 imm) s

/-- 83: XOR r/m16, sext(imm8) (83 /6) (R115). -/
def execXorRm16Simm8 (rm : RM16) (imm : Byte) (s : State) : Result := aluRmImm16 .xor rm (sext16 imm) s

/-- 83: CMP r/m16, sext(imm8) (83 /7) (R116). -/
def execCmpRm16Simm8 (rm : RM16) (imm : Byte) (s : State) : Result := aluRmImm16 .cmp rm (sext16 imm) s

end Sys2Proof.Machine
end

