-- ==== Sys2Proof/Machine/Block.lean ====
section
/-! DEFINITION. The block instructions and REP (44_block_and_rep.md R180 to R186). -/

namespace Sys2Proof.Machine

/-- `delta`: `+n` when DIR is 0, `-n` when DIR is 1 (R180). -/
def delta (s : State) (n : Word) : Word := if s.flag .dir then -n else n

/-- `IX <- (IX + delta) mod 2^16`. -/
def moveIx (s : State) (n : Word) : State := s.setReg16 .ix (s.ix + delta s n)

/-- `IY <- (IY + delta) mod 2^16`. -/
def moveIy (s : State) (n : Word) : State := s.setReg16 .iy (s.iy + delta s n)

/-! One transfer of each instruction (R181 to R185). -/

def movbk8 (s : State) : State :=
  moveIy (moveIx (s.memWrite8 s.ds1 s.iy (s.memRead8 s.dataSeg s.ix)) 1) 1

def movbk16 (s : State) : State :=
  moveIy (moveIx (s.memWrite16 s.ds1 s.iy (s.memRead16 s.dataSeg s.ix)) 2) 2

def stm8 (s : State) : State := moveIy (s.memWrite8 s.ds1 s.iy (s.reg8 .al)) 1

def stm16 (s : State) : State := moveIy (s.memWrite16 s.ds1 s.iy s.aw) 2

def ldm8 (s : State) : State := moveIx (s.setReg8 .al (s.memRead8 s.dataSeg s.ix)) 1

def ldm16 (s : State) : State := moveIx (s.setReg16 .aw (s.memRead16 s.dataSeg s.ix)) 2

def outm8 (s : State) : State := moveIx (s.output8 s.dw (s.memRead8 s.dataSeg s.ix)) 1

def outm16 (s : State) : State := moveIx (s.output16 s.dw (s.memRead16 s.dataSeg s.ix)) 2

def inm8 (s : State) : State := moveIy (s.memWrite8 s.ds1 s.iy (s.portRead8 s.dw)) 1

def inm16 (s : State) : State := moveIy (s.memWrite16 s.ds1 s.iy (s.portRead16 s.dw)) 2

/-- `n` rounds of "one transfer, then CW <- CW - 1". -/
def repeatBody (body : State → State) : Nat → State → State
  | 0, s => s
  | n + 1, s => repeatBody body n ((body s).setReg16 .cw ((body s).cw - 1))

/-- REP (R186): the loop `while CW != 0`. No body writes CW, so it makes as many rounds as CW says on entry (R189;
log 15). -/
def repLoop (body : State → State) (s : State) : State := repeatBody body s.cw.toNat s

/-- 6C: INM byte (R185). -/
def execInmByte (s : State) : Result := .next (inm8 s)

/-- 6D: INM word (R185). -/
def execInmWord (s : State) : Result := .next (inm16 s)

/-- 6E: OUTM byte (R184). -/
def execOutmByte (s : State) : Result := .next (outm8 s)

/-- 6F: OUTM word (R184). -/
def execOutmWord (s : State) : Result := .next (outm16 s)

/-- A4: MOVBK byte (R181). -/
def execMovbkByte (s : State) : Result := .next (movbk8 s)

/-- A5: MOVBK word (R181). -/
def execMovbkWord (s : State) : Result := .next (movbk16 s)

/-- AA: STM byte (R182). -/
def execStmByte (s : State) : Result := .next (stm8 s)

/-- AB: STM word (R182). -/
def execStmWord (s : State) : Result := .next (stm16 s)

/-- AC: LDM byte (R183). -/
def execLdmByte (s : State) : Result := .next (ldm8 s)

/-- AD: LDM word (R183). -/
def execLdmWord (s : State) : Result := .next (ldm16 s)

/-- F3 6C: REP INM byte (R186). -/
def execRepInmByte (s : State) : Result := .next (repLoop inm8 s)

/-- F3 6D: REP INM word (R186). -/
def execRepInmWord (s : State) : Result := .next (repLoop inm16 s)

/-- F3 6E: REP OUTM byte (R186). -/
def execRepOutmByte (s : State) : Result := .next (repLoop outm8 s)

/-- F3 6F: REP OUTM word (R186). -/
def execRepOutmWord (s : State) : Result := .next (repLoop outm16 s)

/-- F3 A4: REP MOVBK byte (R186). -/
def execRepMovbkByte (s : State) : Result := .next (repLoop movbk8 s)

/-- F3 A5: REP MOVBK word (R186). -/
def execRepMovbkWord (s : State) : Result := .next (repLoop movbk16 s)

/-- F3 AA: REP STM byte (R186). -/
def execRepStmByte (s : State) : Result := .next (repLoop stm8 s)

/-- F3 AB: REP STM word (R186). -/
def execRepStmWord (s : State) : Result := .next (repLoop stm16 s)

/-- F3 AC: REP LDM byte (R186). -/
def execRepLdmByte (s : State) : Result := .next (repLoop ldm8 s)

/-- F3 AD: REP LDM word (R186). -/
def execRepLdmWord (s : State) : Result := .next (repLoop ldm16 s)

end Sys2Proof.Machine
end

