-- ==== Sys2Proof/Machine/Control.lean ====
section
/-! DEFINITION. BR, CALL, RET and the conditional branches (45_control_flow.md R200 to R223). PC is already past the
instruction. -/

namespace Sys2Proof.Machine

/-- A conditional branch: the displacement is taken or not (R207). -/
def branchIf (cond : Bool) (disp : Byte) (s : State) : Result :=
  .next (if cond then s.branch (sext16 disp) else s)

/-! The sixteen conditions (R208 to R223). -/

/-- BV: R208. -/
def condBv (s : State) : Bool := s.flag .v

/-- BNV: R209. -/
def condBnv (s : State) : Bool := !s.flag .v

/-- BC: R210. -/
def condBc (s : State) : Bool := s.flag .cy

/-- BNC: R211. -/
def condBnc (s : State) : Bool := !s.flag .cy

/-- BE: R212. -/
def condBe (s : State) : Bool := s.flag .z

/-- BNE: R213. -/
def condBne (s : State) : Bool := !s.flag .z

/-- BNH: R214. -/
def condBnh (s : State) : Bool := s.flag .cy || s.flag .z

/-- BH: R215. -/
def condBh (s : State) : Bool := !(s.flag .cy || s.flag .z)

/-- BN: R216. -/
def condBn (s : State) : Bool := s.flag .s

/-- BP: R217. -/
def condBp (s : State) : Bool := !s.flag .s

/-- BPE: R218. -/
def condBpe (s : State) : Bool := s.flag .p

/-- BPO: R219. -/
def condBpo (s : State) : Bool := !s.flag .p

/-- BLT: R220. -/
def condBlt (s : State) : Bool := s.flag .s ^^ s.flag .v

/-- BGE: R221. -/
def condBge (s : State) : Bool := !(s.flag .s ^^ s.flag .v)

/-- BLE: R222. -/
def condBle (s : State) : Bool := (s.flag .s ^^ s.flag .v) || s.flag .z

/-- BGT: R223. -/
def condBgt (s : State) : Bool := !((s.flag .s ^^ s.flag .v) || s.flag .z)

/-- 70: BV disp8 (R208). -/
def execBv (disp : Byte) (s : State) : Result := branchIf (condBv s) disp s

/-- 71: BNV disp8 (R209). -/
def execBnv (disp : Byte) (s : State) : Result := branchIf (condBnv s) disp s

/-- 72: BC/BL disp8 (R210). -/
def execBc (disp : Byte) (s : State) : Result := branchIf (condBc s) disp s

/-- 73: BNC/BNL disp8 (R211). -/
def execBnc (disp : Byte) (s : State) : Result := branchIf (condBnc s) disp s

/-- 74: BE/BZ disp8 (R212). -/
def execBe (disp : Byte) (s : State) : Result := branchIf (condBe s) disp s

/-- 75: BNE/BNZ disp8 (R213). -/
def execBne (disp : Byte) (s : State) : Result := branchIf (condBne s) disp s

/-- 76: BNH disp8 (R214). -/
def execBnh (disp : Byte) (s : State) : Result := branchIf (condBnh s) disp s

/-- 77: BH disp8 (R215). -/
def execBh (disp : Byte) (s : State) : Result := branchIf (condBh s) disp s

/-- 78: BN disp8 (R216). -/
def execBn (disp : Byte) (s : State) : Result := branchIf (condBn s) disp s

/-- 79: BP disp8 (R217). -/
def execBp (disp : Byte) (s : State) : Result := branchIf (condBp s) disp s

/-- 7A: BPE disp8 (R218). -/
def execBpe (disp : Byte) (s : State) : Result := branchIf (condBpe s) disp s

/-- 7B: BPO disp8 (R219). -/
def execBpo (disp : Byte) (s : State) : Result := branchIf (condBpo s) disp s

/-- 7C: BLT disp8 (R220). -/
def execBlt (disp : Byte) (s : State) : Result := branchIf (condBlt s) disp s

/-- 7D: BGE disp8 (R221). -/
def execBge (disp : Byte) (s : State) : Result := branchIf (condBge s) disp s

/-- 7E: BLE disp8 (R222). -/
def execBle (disp : Byte) (s : State) : Result := branchIf (condBle s) disp s

/-- 7F: BGT disp8 (R223). -/
def execBgt (disp : Byte) (s : State) : Result := branchIf (condBgt s) disp s

/-- 9A: CALL far off16:seg16 (R204). -/
def execCallFar (off : Word) (seg : Word) (s : State) : Result :=
  match s.push16 s.ps with
  | .error f => s.raise f
  | .ok t =>
    match t.push16 t.pc with
    | .error f => t.raise f
    | .ok u => .next (u.farJump seg off)

/-- C3: RET (near) (R205). -/
def execRetNear (s : State) : Result := .next (s.pop16.2.setPc s.pop16.1)

/-- CB: RET (far) (R206). -/
def execRetFar (s : State) : Result := .next (s.pop16.2.pop16.2.farJump s.pop16.2.pop16.1 s.pop16.1)

/-- E8: CALL near disp16 (R203). -/
def execCallNear (disp : Word) (s : State) : Result :=
  match s.push16 s.pc with
  | .ok t => .next (t.branch disp)
  | .error f => s.raise f

/-- E9: BR near disp16 (R200). -/
def execBrNear (disp : Word) (s : State) : Result := .next (s.branch disp)

/-- EA: BR far off16:seg16 (R202). -/
def execBrFar (off : Word) (seg : Word) (s : State) : Result := .next (s.farJump seg off)

/-- EB: BR short disp8 (R201). -/
def execBrShort (disp : Byte) (s : State) : Result := .next (s.branch (sext16 disp))

end Sys2Proof.Machine
end

