-- ==== Sys2Proof/Machine/Division.lean ====
section
/-! DEFINITION. DIVU and DIV (49_division.md R280 to R284). No flag is written; the fault test comes before any register
write. -/

namespace Sys2Proof.Machine

/-- `DW ++ AW`, the dividend of the word forms (R282). -/
def dividend32 (s : State) : BitVec 32 := s.dw ++ s.aw

/-- Whether a signed quotient fits `w` bits: the full two's-complement range (R283, R284). -/
def fitsSigned (w : Nat) (q : Int) : Bool := decide (-(2 ^ (w - 1) : Int) ≤ q) && decide (q < (2 ^ (w - 1) : Int))

/-- Unsigned byte division by `b` (R281). -/
def divu8 (op b : Byte) (s : State) : Result :=
  if b = 0 ∨ 0xFF < s.aw.toNat / b.toNat then s.raise (.divideError op (zext16 b))
  else .next (s.setReg16 .aw (wordOf (BitVec.ofNat 8 (s.aw.toNat % b.toNat)) (BitVec.ofNat 8 (s.aw.toNat / b.toNat))))

/-- Unsigned word division by `b` (R282). -/
def divu16 (op : Byte) (b : Word) (s : State) : Result :=
  let d := (dividend32 s).toNat
  if b = 0 ∨ 0xFFFF < d / b.toNat then s.raise (.divideError op b)
  else .next ((s.setReg16 .aw (BitVec.ofNat 16 (d / b.toNat))).setReg16 .dw (BitVec.ofNat 16 (d % b.toNat)))

/-- Signed byte division by `b`, truncating toward zero (R283). -/
def div8 (op b : Byte) (s : State) : Result :=
  let q := s.aw.toInt.tdiv b.toInt
  if b = 0 ∨ fitsSigned 8 q = false then s.raise (.divideError op (zext16 b))
  else .next (s.setReg16 .aw (wordOf (BitVec.ofInt 8 (s.aw.toInt - q * b.toInt)) (BitVec.ofInt 8 q)))

/-- Signed word division by `b`, truncating toward zero (R284). -/
def div16 (op : Byte) (b : Word) (s : State) : Result :=
  let a := (dividend32 s).toInt
  let q := a.tdiv b.toInt
  if b = 0 ∨ fitsSigned 16 q = false then s.raise (.divideError op b)
  else .next ((s.setReg16 .aw (BitVec.ofInt 16 q)).setReg16 .dw (BitVec.ofInt 16 (a - q * b.toInt)))

/-- F6: DIVU r/m8 (F6 /6) (R281). -/
def execDivuRm8 (rm : RM8) (s : State) : Result := divu8 0xF6 (s.read8 (resolve s rm)) s

/-- F6: DIV r/m8 (F6 /7) (R283). -/
def execDivRm8 (rm : RM8) (s : State) : Result := div8 0xF6 (s.read8 (resolve s rm)) s

/-- F7: DIVU r/m16 (F7 /6) (R282). -/
def execDivuRm16 (rm : RM16) (s : State) : Result := divu16 0xF7 (s.read16 (resolve s rm)) s

/-- F7: DIV r/m16 (F7 /7) (R284). -/
def execDivRm16 (rm : RM16) (s : State) : Result := div16 0xF7 (s.read16 (resolve s rm)) s

end Sys2Proof.Machine
end

