-- ==== Sys2Proof/Machine/ExtAddr.lean ====
section
/-! DEFINITION. BRKXA and RETXA (48_extended_addressing.md R270 to R272). -/

namespace Sys2Proof.Machine

/-- Both instructions: read the entry at physical `4 * n` through the bank select as it is, flip `xa`, load PC and PS.
Nothing is pushed or popped, nothing is output. -/
def vectorJump (n : Byte) (s : State) : Result :=
  let v := s.vectorAt (4 * n.toNat)
  .next (s.flipXa.farJump v.2 v.1)

/-- 0F E0: BRKXA imm8 (R271). -/
def execBrkxa (n : Byte) (s : State) : Result := vectorJump n s

/-- 0F F0: RETXA imm8 (R272). -/
def execRetxa (n : Byte) (s : State) : Result := vectorJump n s

end Sys2Proof.Machine
end

