-- ==== Sys2Proof/Machine/Io.lean ====
section
/-! DEFINITION. IN and OUT (46_io.md R240 to R247). -/

namespace Sys2Proof.Machine

/-- E4: IN AL, imm8 (R240). -/
def execInAlImm8 (port : Byte) (s : State) : Result := .next (s.setReg8 .al (s.portRead8 (zext16 port)))

/-- E5: IN AW, imm8 (R241). -/
def execInAwImm8 (port : Byte) (s : State) : Result := .next (s.setReg16 .aw (s.portRead16 (zext16 port)))

/-- E6: OUT imm8, AL (R242). -/
def execOutImm8Al (port : Byte) (s : State) : Result := .next (s.output8 (zext16 port) (s.reg8 .al))

/-- E7: OUT imm8, AW (R243). -/
def execOutImm8Aw (port : Byte) (s : State) : Result := .next (s.output16 (zext16 port) s.aw)

/-- EC: IN AL, DW (R244). -/
def execInAlDw (s : State) : Result := .next (s.setReg8 .al (s.portRead8 s.dw))

/-- ED: IN AW, DW (R245). -/
def execInAwDw (s : State) : Result := .next (s.setReg16 .aw (s.portRead16 s.dw))

/-- EE: OUT DW, AL (R246). -/
def execOutDwAl (s : State) : Result := .next (s.output8 s.dw (s.reg8 .al))

/-- EF: OUT DW, AW (R247). -/
def execOutDwAw (s : State) : Result := .next (s.output16 s.dw s.aw)

end Sys2Proof.Machine
end

