-- ==== Sys2Proof/Machine/Move.lean ====
section
/-! DEFINITION. MOV (42_data_movement.md R140 to R149) and the undefined sub-codes of its opcodes (30_encoding.md R81). -/

namespace Sys2Proof.Machine

/-- 88: MOV r/m8, reg8 (R140). -/
def execMovRm8Reg8 (rm : RM8) (reg : Reg8) (s : State) : Result := .next (s.write8 (resolve s rm) (s.reg8 reg))

/-- 89: MOV r/m16, reg16 (R140). -/
def execMovRm16Reg16 (rm : RM16) (reg : Reg16) (s : State) : Result := .next (s.write16 (resolve s rm) (s.reg16 reg))

/-- 8A: MOV reg8, r/m8 (R141). -/
def execMovReg8Rm8 (reg : Reg8) (rm : RM8) (s : State) : Result := .next (s.setReg8 reg (s.read8 (resolve s rm)))

/-- 8B: MOV reg16, r/m16 (R141). -/
def execMovReg16Rm16 (reg : Reg16) (rm : RM16) (s : State) : Result :=
  .next (s.setReg16 reg (s.read16 (resolve s rm)))

/-- 8C: MOV r/m16, sreg (R142). -/
def execMovRm16Sreg (rm : RM16) (src : SReg) (s : State) : Result := .next (s.write16 (resolve s rm) (s.sreg src))

/-- 8C: MOV r/m16, sreg (reg 4..7, undefined) (R142). -/
def execMovRm16SregUndef (rm : RM16) (code : BitVec 3) (s : State) : Result :=
  s.raise (.undefinedEncoding 0x8C (rm.modrm16 code))

/-- 8E: MOV DS1, r/m16 (R143). -/
def execMovDs1Rm16 (rm : RM16) (s : State) : Result := .next (s.setSReg .ds1 (s.read16 (resolve s rm)))

/-- 8E: MOV PS, r/m16 (undefined) (R143). -/
def execMovPsRm16Undef (rm : RM16) (s : State) : Result := s.raise (.undefinedEncoding 0x8E (rm.modrm16 1))

/-- 8E: MOV SS/DS0, r/m16 (R143). -/
def execMovSsDs0Rm16 (dst : SReg) (rm : RM16) (s : State) : Result := .next (s.setSReg dst (s.read16 (resolve s rm)))

/-- 8E: MOV sreg, r/m16 (reg 4..7, undefined) (R143). -/
def execMovSregRm16Undef (rm : RM16) (code : BitVec 3) (s : State) : Result :=
  s.raise (.undefinedEncoding 0x8E (rm.modrm16 code))

/-- A0: MOV AL, [addr16] (R147). -/
def execMovAlDirect (addr : Word) (s : State) : Result := .next (s.setReg8 .al (s.memRead8 s.dataSeg addr))

/-- A1: MOV AW, [addr16] (R147). -/
def execMovAwDirect (addr : Word) (s : State) : Result := .next (s.setReg16 .aw (s.memRead16 s.dataSeg addr))

/-- A2: MOV [addr16], AL (R148). -/
def execMovDirectAl (addr : Word) (s : State) : Result := .next (s.memWrite8 s.dataSeg addr (s.reg8 .al))

/-- A3: MOV [addr16], AW (R148). -/
def execMovDirectAw (addr : Word) (s : State) : Result := .next (s.memWrite16 s.dataSeg addr (s.reg16 .aw))

/-- B0: MOV reg8, imm8 (R144). -/
def execMovReg8Imm8 (reg : Reg8) (imm : Byte) (s : State) : Result := .next (s.setReg8 reg imm)

/-- B8: MOV reg16, imm16 (R145). -/
def execMovReg16Imm16 (reg : Reg16) (imm : Word) (s : State) : Result := .next (s.setReg16 reg imm)

/-- C6: MOV r/m8, imm8 (C6 /0) (R146). -/
def execMovRm8Imm8 (rm : RM8) (imm : Byte) (s : State) : Result := .next (s.write8 (resolve s rm) imm)

/-- C6: /1 (undefined) (R146). -/
def execMovC6Undef1 (rm : RM8) (s : State) : Result := s.raise (.undefinedEncoding 0xC6 (rm.modrm8 1))

/-- C6: /2,/3 (undefined) (R146). -/
def execMovC6Undef2to3 (rm : RM8) (code : BitVec 3) (s : State) : Result :=
  s.raise (.undefinedEncoding 0xC6 (rm.modrm8 code))

/-- C6: /4../7 (undefined) (R146). -/
def execMovC6Undef4to7 (rm : RM8) (code : BitVec 3) (s : State) : Result :=
  s.raise (.undefinedEncoding 0xC6 (rm.modrm8 code))

/-- C7: MOV r/m16, imm16 (C7 /0) (R146). -/
def execMovRm16Imm16 (rm : RM16) (imm : Word) (s : State) : Result := .next (s.write16 (resolve s rm) imm)

/-- C7: /1 (undefined) (R146). -/
def execMovC7Undef1 (rm : RM16) (s : State) : Result := s.raise (.undefinedEncoding 0xC7 (rm.modrm16 1))

/-- C7: /2,/3 (undefined) (R146). -/
def execMovC7Undef2to3 (rm : RM16) (code : BitVec 3) (s : State) : Result :=
  s.raise (.undefinedEncoding 0xC7 (rm.modrm16 code))

/-- C7: /4../7 (undefined) (R146). -/
def execMovC7Undef4to7 (rm : RM16) (code : BitVec 3) (s : State) : Result :=
  s.raise (.undefinedEncoding 0xC7 (rm.modrm16 code))

end Sys2Proof.Machine
end

