-- ==== Sys2Proof/Machine/Prefix.lean ====
section
/-! DEFINITION. The four segment-override prefixes, each an instruction of its own (40_step_and_prefixes.md R101 to
R104). -/

namespace Sys2Proof.Machine

/-- Set the override latch. -/
def setOverride (r : SReg) (s : State) : Result := .next (s.setSegOverride (some r))

/-- 26: DS1: (segment-override prefix) (R101). -/
def execPrefixDs1 (s : State) : Result := setOverride .ds1 s

/-- 2E: PS: (segment-override prefix) (R102). -/
def execPrefixPs (s : State) : Result := setOverride .ps s

/-- 36: SS: (segment-override prefix) (R103). -/
def execPrefixSs (s : State) : Result := setOverride .ss s

/-- 3E: DS0: (segment-override prefix) (R104). -/
def execPrefixDs0 (s : State) : Result := setOverride .ds0 s

end Sys2Proof.Machine
end

