-- ==== Sys2Proof/Machine/Shift.lean ====
section
/-! DEFINITION. The shift and rotate group (47_shift_rotate.md R250 to R259). -/

namespace Sys2Proof.Machine

/-- The seven operations. -/
inductive ShiftOp where
  | rol | ror | rolc | rorc | shl | shr | shra
  deriving DecidableEq, Repr

/-- One bit in the least significant place. -/
def lowBit (w : Nat) (b : Bool) : BitVec w := (BitVec.ofBool b).setWidth w

/-- One bit in the most significant place. -/
def highBit (w : Nat) (b : Bool) : BitVec w := lowBit w b <<< (w - 1)

/-- The one-bit step of an operation on (value, carry); the new carry is the bit moved out (R251 to R257). -/
def shiftStep {w : Nat} (op : ShiftOp) (x : BitVec w) (c : Bool) : BitVec w × Bool :=
  match op with
  | .rol => ((x <<< 1) ||| lowBit w x.msb, x.msb)
  | .ror => ((x >>> 1) ||| highBit w (x.getLsbD 0), x.getLsbD 0)
  | .rolc => ((x <<< 1) ||| lowBit w c, x.msb)
  | .rorc => ((x >>> 1) ||| highBit w c, x.getLsbD 0)
  | .shl => (x <<< 1, x.msb)
  | .shr => (x >>> 1, x.getLsbD 0)
  | .shra => ((x >>> 1) ||| highBit w x.msb, x.getLsbD 0)

/-- The step iterated: the count is the full 8-bit value, not masked (R250). -/
def shiftTimes {w : Nat} (op : ShiftOp) : Nat → BitVec w → Bool → BitVec w × Bool
  | 0, x, c => (x, c)
  | n + 1, x, c => shiftTimes op n (shiftStep op x c).1 (shiftStep op x c).2

/-- The four rotates leave P, Z, S; the three shifts write them (R259). -/
def groupFlags {w : Nat} (op : ShiftOp) (psw : Word) (a r : BitVec w) (cy : Bool) : Word :=
  match op with
  | .rol | .ror | .rolc | .rorc => rotateFlags psw a r cy
  | .shl | .shr | .shra => shiftFlags psw a r cy

/-- Procedure of R250 after the count is read, byte width: count 0 writes nothing. -/
def shift8 (op : ShiftOp) (rm : RM8) (cnt : Byte) (s : State) : Result :=
  if cnt = 0 then .next s
  else
    let x := resolve s rm
    let a := s.read8 x
    let rc := shiftTimes op cnt.toNat a (s.flag .cy)
    let t := s.write8 x rc.1
    .next (t.setPsw (groupFlags op t.psw a rc.1 rc.2))

/-- As `shift8`, word width. -/
def shift16 (op : ShiftOp) (rm : RM16) (cnt : Byte) (s : State) : Result :=
  if cnt = 0 then .next s
  else
    let x := resolve s rm
    let a := s.read16 x
    let rc := shiftTimes op cnt.toNat a (s.flag .cy)
    let t := s.write16 x rc.1
    .next (t.setPsw (groupFlags op t.psw a rc.1 rc.2))

/-- C0: ROL r/m8, imm8 (C0 /0) (R251). -/
def execRolRm8Imm8 (rm : RM8) (count : Byte) (s : State) : Result := shift8 .rol rm count s

/-- C0: ROR r/m8, imm8 (C0 /1) (R252). -/
def execRorRm8Imm8 (rm : RM8) (count : Byte) (s : State) : Result := shift8 .ror rm count s

/-- C0: ROLC r/m8, imm8 (C0 /2) (R253). -/
def execRolcRm8Imm8 (rm : RM8) (count : Byte) (s : State) : Result := shift8 .rolc rm count s

/-- C0: RORC r/m8, imm8 (C0 /3) (R254). -/
def execRorcRm8Imm8 (rm : RM8) (count : Byte) (s : State) : Result := shift8 .rorc rm count s

/-- C0: SHL r/m8, imm8 (C0 /4) (R255). -/
def execShlRm8Imm8 (rm : RM8) (count : Byte) (s : State) : Result := shift8 .shl rm count s

/-- C0: SHR r/m8, imm8 (C0 /5) (R256). -/
def execShrRm8Imm8 (rm : RM8) (count : Byte) (s : State) : Result := shift8 .shr rm count s

/-- C0: /6 (undefined) (R258). -/
def execShiftC0Undef (rm : RM8) (s : State) : Result := s.raise (.undefinedEncoding 0xC0 (rm.modrm8 6))

/-- C0: SHRA r/m8, imm8 (C0 /7) (R257). -/
def execShraRm8Imm8 (rm : RM8) (count : Byte) (s : State) : Result := shift8 .shra rm count s

/-- C1: ROL r/m16, imm8 (C1 /0) (R251). -/
def execRolRm16Imm8 (rm : RM16) (count : Byte) (s : State) : Result := shift16 .rol rm count s

/-- C1: ROR r/m16, imm8 (C1 /1) (R252). -/
def execRorRm16Imm8 (rm : RM16) (count : Byte) (s : State) : Result := shift16 .ror rm count s

/-- C1: ROLC r/m16, imm8 (C1 /2) (R253). -/
def execRolcRm16Imm8 (rm : RM16) (count : Byte) (s : State) : Result := shift16 .rolc rm count s

/-- C1: RORC r/m16, imm8 (C1 /3) (R254). -/
def execRorcRm16Imm8 (rm : RM16) (count : Byte) (s : State) : Result := shift16 .rorc rm count s

/-- C1: SHL r/m16, imm8 (C1 /4) (R255). -/
def execShlRm16Imm8 (rm : RM16) (count : Byte) (s : State) : Result := shift16 .shl rm count s

/-- C1: SHR r/m16, imm8 (C1 /5) (R256). -/
def execShrRm16Imm8 (rm : RM16) (count : Byte) (s : State) : Result := shift16 .shr rm count s

/-- C1: /6 (undefined) (R258). -/
def execShiftC1Undef (rm : RM16) (s : State) : Result := s.raise (.undefinedEncoding 0xC1 (rm.modrm16 6))

/-- C1: SHRA r/m16, imm8 (C1 /7) (R257). -/
def execShraRm16Imm8 (rm : RM16) (count : Byte) (s : State) : Result := shift16 .shra rm count s

/-- D0: ROL r/m8, 1 (D0 /0) (R251). -/
def execRolRm8One (rm : RM8) (s : State) : Result := shift8 .rol rm 1 s

/-- D0: ROR r/m8, 1 (D0 /1) (R252). -/
def execRorRm8One (rm : RM8) (s : State) : Result := shift8 .ror rm 1 s

/-- D0: ROLC r/m8, 1 (D0 /2) (R253). -/
def execRolcRm8One (rm : RM8) (s : State) : Result := shift8 .rolc rm 1 s

/-- D0: RORC r/m8, 1 (D0 /3) (R254). -/
def execRorcRm8One (rm : RM8) (s : State) : Result := shift8 .rorc rm 1 s

/-- D0: SHL r/m8, 1 (D0 /4) (R255). -/
def execShlRm8One (rm : RM8) (s : State) : Result := shift8 .shl rm 1 s

/-- D0: SHR r/m8, 1 (D0 /5) (R256). -/
def execShrRm8One (rm : RM8) (s : State) : Result := shift8 .shr rm 1 s

/-- D0: /6 (undefined) (R258). -/
def execShiftD0Undef (rm : RM8) (s : State) : Result := s.raise (.undefinedEncoding 0xD0 (rm.modrm8 6))

/-- D0: SHRA r/m8, 1 (D0 /7) (R257). -/
def execShraRm8One (rm : RM8) (s : State) : Result := shift8 .shra rm 1 s

/-- D1: ROL r/m16, 1 (D1 /0) (R251). -/
def execRolRm16One (rm : RM16) (s : State) : Result := shift16 .rol rm 1 s

/-- D1: ROR r/m16, 1 (D1 /1) (R252). -/
def execRorRm16One (rm : RM16) (s : State) : Result := shift16 .ror rm 1 s

/-- D1: ROLC r/m16, 1 (D1 /2) (R253). -/
def execRolcRm16One (rm : RM16) (s : State) : Result := shift16 .rolc rm 1 s

/-- D1: RORC r/m16, 1 (D1 /3) (R254). -/
def execRorcRm16One (rm : RM16) (s : State) : Result := shift16 .rorc rm 1 s

/-- D1: SHL r/m16, 1 (D1 /4) (R255). -/
def execShlRm16One (rm : RM16) (s : State) : Result := shift16 .shl rm 1 s

/-- D1: SHR r/m16, 1 (D1 /5) (R256). -/
def execShrRm16One (rm : RM16) (s : State) : Result := shift16 .shr rm 1 s

/-- D1: /6 (undefined) (R258). -/
def execShiftD1Undef (rm : RM16) (s : State) : Result := s.raise (.undefinedEncoding 0xD1 (rm.modrm16 6))

/-- D1: SHRA r/m16, 1 (D1 /7) (R257). -/
def execShraRm16One (rm : RM16) (s : State) : Result := shift16 .shra rm 1 s

/-- D2: ROL r/m8, CL (D2 /0) (R251). -/
def execRolRm8Cl (rm : RM8) (s : State) : Result := shift8 .rol rm (s.reg8 .cl) s

/-- D2: ROR r/m8, CL (D2 /1) (R252). -/
def execRorRm8Cl (rm : RM8) (s : State) : Result := shift8 .ror rm (s.reg8 .cl) s

/-- D2: ROLC r/m8, CL (D2 /2) (R253). -/
def execRolcRm8Cl (rm : RM8) (s : State) : Result := shift8 .rolc rm (s.reg8 .cl) s

/-- D2: RORC r/m8, CL (D2 /3) (R254). -/
def execRorcRm8Cl (rm : RM8) (s : State) : Result := shift8 .rorc rm (s.reg8 .cl) s

/-- D2: SHL r/m8, CL (D2 /4) (R255). -/
def execShlRm8Cl (rm : RM8) (s : State) : Result := shift8 .shl rm (s.reg8 .cl) s

/-- D2: SHR r/m8, CL (D2 /5) (R256). -/
def execShrRm8Cl (rm : RM8) (s : State) : Result := shift8 .shr rm (s.reg8 .cl) s

/-- D2: /6 (undefined) (R258). -/
def execShiftD2Undef (rm : RM8) (s : State) : Result := s.raise (.undefinedEncoding 0xD2 (rm.modrm8 6))

/-- D2: SHRA r/m8, CL (D2 /7) (R257). -/
def execShraRm8Cl (rm : RM8) (s : State) : Result := shift8 .shra rm (s.reg8 .cl) s

/-- D3: ROL r/m16, CL (D3 /0) (R251). -/
def execRolRm16Cl (rm : RM16) (s : State) : Result := shift16 .rol rm (s.reg8 .cl) s

/-- D3: ROR r/m16, CL (D3 /1) (R252). -/
def execRorRm16Cl (rm : RM16) (s : State) : Result := shift16 .ror rm (s.reg8 .cl) s

/-- D3: ROLC r/m16, CL (D3 /2) (R253). -/
def execRolcRm16Cl (rm : RM16) (s : State) : Result := shift16 .rolc rm (s.reg8 .cl) s

/-- D3: RORC r/m16, CL (D3 /3) (R254). -/
def execRorcRm16Cl (rm : RM16) (s : State) : Result := shift16 .rorc rm (s.reg8 .cl) s

/-- D3: SHL r/m16, CL (D3 /4) (R255). -/
def execShlRm16Cl (rm : RM16) (s : State) : Result := shift16 .shl rm (s.reg8 .cl) s

/-- D3: SHR r/m16, CL (D3 /5) (R256). -/
def execShrRm16Cl (rm : RM16) (s : State) : Result := shift16 .shr rm (s.reg8 .cl) s

/-- D3: /6 (undefined) (R258). -/
def execShiftD3Undef (rm : RM16) (s : State) : Result := s.raise (.undefinedEncoding 0xD3 (rm.modrm16 6))

/-- D3: SHRA r/m16, CL (D3 /7) (R257). -/
def execShraRm16Cl (rm : RM16) (s : State) : Result := shift16 .shra rm (s.reg8 .cl) s

end Sys2Proof.Machine
end

