-- ==== Sys2Proof/Machine/Stack.lean ====
section
/-! DEFINITION. PUSH and POP (43_stack.md R160 to R165). -/

namespace Sys2Proof.Machine

/-- `Push16(v)` as a whole instruction: StackOverflow, or the push. -/
def pushValue (v : Word) (s : State) : Result :=
  match s.push16 v with
  | .ok t => .next t
  | .error f => s.raise f

/-- 06: PUSH DS1 (R162). -/
def execPushDs1 (s : State) : Result := pushValue s.ds1 s

/-- 07: POP DS1 (R163). -/
def execPopDs1 (s : State) : Result := .next (s.pop16.2.setSReg .ds1 s.pop16.1)

/-- 0E: PUSH PS (R162). -/
def execPushPs (s : State) : Result := pushValue s.ps s

/-- 16: PUSH SS (R162). -/
def execPushSs (s : State) : Result := pushValue s.ss s

/-- 17: POP SS (R163). -/
def execPopSs (s : State) : Result := .next (s.pop16.2.setSReg .ss s.pop16.1)

/-- 1E: PUSH DS0 (R162). -/
def execPushDs0 (s : State) : Result := pushValue s.ds0 s

/-- 1F: POP DS0 (R163). -/
def execPopDs0 (s : State) : Result := .next (s.pop16.2.setSReg .ds0 s.pop16.1)

/-- 50: PUSH reg16 (R160). -/
def execPushReg16 (reg : Reg16) (s : State) : Result := pushValue (s.reg16 reg) s

/-- 58: POP reg16 (R161). -/
def execPopReg16 (reg : Reg16) (s : State) : Result := .next (s.pop16.2.setReg16 reg s.pop16.1)

/-- 9C: PUSH PSW (R164). -/
def execPushPsw (s : State) : Result := pushValue s.psw s

/-- 9D: POP PSW (R165). -/
def execPopPsw (s : State) : Result := .next (s.pop16.2.setPsw s.pop16.1)

end Sys2Proof.Machine
end

