-- ==== Sys2Proof/Machine/Unimplemented.lean ====
section
/-! DEFINITION. The encodings the core does not implement (30_encoding.md R80; 41 R121, 43 R166, 44 R186 to R188 and R190,
45 R224, 48 R273, 49 R285). Each raises Unimplemented with the opcode byte and, where one was fetched, the secondary byte
(60_exceptions.md R301). -/

namespace Sys2Proof.Machine

/-- The first byte alone is fetched. -/
def unimplementedOp (op : Byte) (s : State) : Result := s.raise (.unimplemented op none)

/-- A secondary byte was fetched: a ModRM byte, the byte after 0F, or the byte after F3. -/
def unimplementedSub (op sub : Byte) (s : State) : Result := s.raise (.unimplemented op (some sub))

/-- 0F: 00/80 (unimplemented sub-opcode) (R273). -/
def execEscUnimp00 (sub : Byte) (s : State) : Result := unimplementedSub 0x0F sub s

/-- 0F: 80/C0 (unimplemented sub-opcode) (R273). -/
def execEscUnimp80 (sub : Byte) (s : State) : Result := unimplementedSub 0x0F sub s

/-- 0F: C0/E0 (unimplemented sub-opcode) (R273). -/
def execEscUnimpC0 (sub : Byte) (s : State) : Result := unimplementedSub 0x0F sub s

/-- 0F E1: 0F E1/FF (unimplemented sub-opcode) (R273). -/
def execEscUnimpE1 (s : State) : Result := unimplementedSub 0x0F 0xE1 s

/-- 0F: E2/FE (unimplemented sub-opcode) (R273). -/
def execEscUnimpE2 (sub : Byte) (s : State) : Result := unimplementedSub 0x0F sub s

/-- 0F: E4/FC (unimplemented sub-opcode) (R273). -/
def execEscUnimpE4 (sub : Byte) (s : State) : Result := unimplementedSub 0x0F sub s

/-- 0F: E8/F8 (unimplemented sub-opcode) (R273). -/
def execEscUnimpE8 (sub : Byte) (s : State) : Result := unimplementedSub 0x0F sub s

/-- 0F F1: 0F F1/FF (unimplemented sub-opcode) (R273). -/
def execEscUnimpF1 (s : State) : Result := unimplementedSub 0x0F 0xF1 s

/-- 0F: F2/FE (unimplemented sub-opcode) (R273). -/
def execEscUnimpF2 (sub : Byte) (s : State) : Result := unimplementedSub 0x0F sub s

/-- 0F: F4/FC (unimplemented sub-opcode) (R273). -/
def execEscUnimpF4 (sub : Byte) (s : State) : Result := unimplementedSub 0x0F sub s

/-- 0F: F8/F8 (unimplemented sub-opcode) (R273). -/
def execEscUnimpF8 (sub : Byte) (s : State) : Result := unimplementedSub 0x0F sub s

/-- 10: unimplemented (silicon name: ADDC) (R121). -/
def execUnimp10 (s : State) : Result := unimplementedOp 0x10 s

/-- 11: unimplemented (silicon name: ADDC) (R121). -/
def execUnimp11 (s : State) : Result := unimplementedOp 0x11 s

/-- 12: unimplemented (silicon name: ADDC) (R121). -/
def execUnimp12 (s : State) : Result := unimplementedOp 0x12 s

/-- 13: unimplemented (silicon name: ADDC) (R121). -/
def execUnimp13 (s : State) : Result := unimplementedOp 0x13 s

/-- 14: unimplemented (silicon name: ADDC) (R121). -/
def execUnimp14 (s : State) : Result := unimplementedOp 0x14 s

/-- 15: unimplemented (silicon name: ADDC) (R121). -/
def execUnimp15 (s : State) : Result := unimplementedOp 0x15 s

/-- 18: unimplemented (silicon name: SUBC) (R121). -/
def execUnimp18 (s : State) : Result := unimplementedOp 0x18 s

/-- 19: unimplemented (silicon name: SUBC) (R121). -/
def execUnimp19 (s : State) : Result := unimplementedOp 0x19 s

/-- 1A: unimplemented (silicon name: SUBC) (R121). -/
def execUnimp1A (s : State) : Result := unimplementedOp 0x1A s

/-- 1B: unimplemented (silicon name: SUBC) (R121). -/
def execUnimp1B (s : State) : Result := unimplementedOp 0x1B s

/-- 1C: unimplemented (silicon name: SUBC) (R121). -/
def execUnimp1C (s : State) : Result := unimplementedOp 0x1C s

/-- 1D: unimplemented (silicon name: SUBC) (R121). -/
def execUnimp1D (s : State) : Result := unimplementedOp 0x1D s

/-- 27: unimplemented (silicon name: ADJ4A) (R80). -/
def execUnimp27 (s : State) : Result := unimplementedOp 0x27 s

/-- 2F: unimplemented (silicon name: ADJ4S) (R80). -/
def execUnimp2F (s : State) : Result := unimplementedOp 0x2F s

/-- 37: unimplemented (silicon name: ADJBA) (R80). -/
def execUnimp37 (s : State) : Result := unimplementedOp 0x37 s

/-- 3F: unimplemented (silicon name: ADJBS) (R80). -/
def execUnimp3F (s : State) : Result := unimplementedOp 0x3F s

/-- 60: unimplemented (silicon name: PUSH R) (R166). -/
def execUnimp60 (s : State) : Result := unimplementedOp 0x60 s

/-- 61: unimplemented (silicon name: POP R) (R166). -/
def execUnimp61 (s : State) : Result := unimplementedOp 0x61 s

/-- 62: unimplemented (silicon name: CHKIND) (R80). -/
def execUnimp62 (s : State) : Result := unimplementedOp 0x62 s

/-- 63: unimplemented (silicon name: (undefined on the silicon)) (R80). -/
def execUnimp63 (s : State) : Result := unimplementedOp 0x63 s

/-- 64: unimplemented (silicon name: REPNC) (R190). -/
def execUnimp64 (s : State) : Result := unimplementedOp 0x64 s

/-- 65: unimplemented (silicon name: REPC) (R190). -/
def execUnimp65 (s : State) : Result := unimplementedOp 0x65 s

/-- 66: unimplemented (silicon name: FPO2) (R80). -/
def execUnimp66 (s : State) : Result := unimplementedOp 0x66 s

/-- 67: unimplemented (silicon name: FPO2) (R80). -/
def execUnimp67 (s : State) : Result := unimplementedOp 0x67 s

/-- 68: unimplemented (silicon name: PUSH imm16) (R166). -/
def execUnimp68 (s : State) : Result := unimplementedOp 0x68 s

/-- 69: unimplemented (silicon name: MUL imm16) (R80). -/
def execUnimp69 (s : State) : Result := unimplementedOp 0x69 s

/-- 6A: unimplemented (silicon name: PUSH imm8) (R166). -/
def execUnimp6A (s : State) : Result := unimplementedOp 0x6A s

/-- 6B: unimplemented (silicon name: MUL imm8) (R80). -/
def execUnimp6B (s : State) : Result := unimplementedOp 0x6B s

/-- 80: ADDC r/m8, imm8 (80 /2, unimplemented) (R121). -/
def execAddcRm8Imm8Unimp (rm : RM8) (s : State) : Result := unimplementedSub 0x80 (rm.modrm8 2) s

/-- 80: SUBC r/m8, imm8 (80 /3, unimplemented) (R121). -/
def execSubcRm8Imm8Unimp (rm : RM8) (s : State) : Result := unimplementedSub 0x80 (rm.modrm8 3) s

/-- 81: ADDC r/m16, imm16 (81 /2, unimplemented) (R121). -/
def execAddcRm16Imm16Unimp (rm : RM16) (s : State) : Result := unimplementedSub 0x81 (rm.modrm16 2) s

/-- 81: SUBC r/m16, imm16 (81 /3, unimplemented) (R121). -/
def execSubcRm16Imm16Unimp (rm : RM16) (s : State) : Result := unimplementedSub 0x81 (rm.modrm16 3) s

/-- 82: unimplemented (silicon name: (alias of 80 on the 8086)) (R80). -/
def execUnimp82 (s : State) : Result := unimplementedOp 0x82 s

/-- 83: ADDC r/m16, sext(imm8) (83 /2, unimplemented) (R121). -/
def execAddcRm16Simm8Unimp (rm : RM16) (s : State) : Result := unimplementedSub 0x83 (rm.modrm16 2) s

/-- 83: SUBC r/m16, sext(imm8) (83 /3, unimplemented) (R121). -/
def execSubcRm16Simm8Unimp (rm : RM16) (s : State) : Result := unimplementedSub 0x83 (rm.modrm16 3) s

/-- 84: unimplemented (silicon name: TEST r/m8, reg8) (R80). -/
def execUnimp84 (s : State) : Result := unimplementedOp 0x84 s

/-- 85: unimplemented (silicon name: TEST r/m16, reg16) (R80). -/
def execUnimp85 (s : State) : Result := unimplementedOp 0x85 s

/-- 86: unimplemented (silicon name: XCH r/m8, reg8) (R80). -/
def execUnimp86 (s : State) : Result := unimplementedOp 0x86 s

/-- 87: unimplemented (silicon name: XCH r/m16, reg16) (R80). -/
def execUnimp87 (s : State) : Result := unimplementedOp 0x87 s

/-- 8D: unimplemented (silicon name: LDEA) (R80). -/
def execUnimp8D (s : State) : Result := unimplementedOp 0x8D s

/-- 8F: unimplemented (silicon name: POP r/m16) (R166). -/
def execUnimp8F (s : State) : Result := unimplementedOp 0x8F s

/-- 90: unimplemented (silicon name: NOP) (R80). -/
def execUnimp90 (s : State) : Result := unimplementedOp 0x90 s

/-- 91: unimplemented (silicon name: XCH AW, reg16) (R80). -/
def execUnimp91 (s : State) : Result := unimplementedOp 0x91 s

/-- 92: unimplemented (silicon name: XCH AW, reg16) (R80). -/
def execUnimp92 (s : State) : Result := unimplementedOp 0x92 s

/-- 93: unimplemented (silicon name: XCH AW, reg16) (R80). -/
def execUnimp93 (s : State) : Result := unimplementedOp 0x93 s

/-- 94: unimplemented (silicon name: XCH AW, reg16) (R80). -/
def execUnimp94 (s : State) : Result := unimplementedOp 0x94 s

/-- 95: unimplemented (silicon name: XCH AW, reg16) (R80). -/
def execUnimp95 (s : State) : Result := unimplementedOp 0x95 s

/-- 96: unimplemented (silicon name: XCH AW, reg16) (R80). -/
def execUnimp96 (s : State) : Result := unimplementedOp 0x96 s

/-- 97: unimplemented (silicon name: XCH AW, reg16) (R80). -/
def execUnimp97 (s : State) : Result := unimplementedOp 0x97 s

/-- 98: unimplemented (silicon name: CVTBW) (R80). -/
def execUnimp98 (s : State) : Result := unimplementedOp 0x98 s

/-- 99: unimplemented (silicon name: CVTWL) (R80). -/
def execUnimp99 (s : State) : Result := unimplementedOp 0x99 s

/-- 9B: unimplemented (silicon name: POLL) (R80). -/
def execUnimp9B (s : State) : Result := unimplementedOp 0x9B s

/-- 9E: unimplemented (silicon name: MOV PSW, AH) (R80). -/
def execUnimp9E (s : State) : Result := unimplementedOp 0x9E s

/-- 9F: unimplemented (silicon name: MOV AH, PSW) (R80). -/
def execUnimp9F (s : State) : Result := unimplementedOp 0x9F s

/-- A6: CMPBK byte (unimplemented) (R187). -/
def execCmpbkByteUnimp (s : State) : Result := unimplementedOp 0xA6 s

/-- A7: CMPBK word (unimplemented) (R187). -/
def execCmpbkWordUnimp (s : State) : Result := unimplementedOp 0xA7 s

/-- A8: unimplemented (silicon name: TEST AL, imm8) (R80). -/
def execUnimpA8 (s : State) : Result := unimplementedOp 0xA8 s

/-- A9: unimplemented (silicon name: TEST AW, imm16) (R80). -/
def execUnimpA9 (s : State) : Result := unimplementedOp 0xA9 s

/-- AE: CMPM byte (unimplemented) (R188). -/
def execCmpmByteUnimp (s : State) : Result := unimplementedOp 0xAE s

/-- AF: CMPM word (unimplemented) (R188). -/
def execCmpmWordUnimp (s : State) : Result := unimplementedOp 0xAF s

/-- C2: unimplemented (silicon name: RET pop-value) (R224). -/
def execUnimpC2 (s : State) : Result := unimplementedOp 0xC2 s

/-- C4: unimplemented (silicon name: MOV DS1, reg16, mem32) (R80). -/
def execUnimpC4 (s : State) : Result := unimplementedOp 0xC4 s

/-- C5: unimplemented (silicon name: MOV DS0, reg16, mem32) (R80). -/
def execUnimpC5 (s : State) : Result := unimplementedOp 0xC5 s

/-- C8: unimplemented (silicon name: PREPARE) (R166). -/
def execUnimpC8 (s : State) : Result := unimplementedOp 0xC8 s

/-- C9: unimplemented (silicon name: DISPOSE) (R166). -/
def execUnimpC9 (s : State) : Result := unimplementedOp 0xC9 s

/-- CA: unimplemented (silicon name: RET far pop-value) (R224). -/
def execUnimpCA (s : State) : Result := unimplementedOp 0xCA s

/-- CC: unimplemented (silicon name: BRK 3) (R224). -/
def execUnimpCC (s : State) : Result := unimplementedOp 0xCC s

/-- CD: unimplemented (silicon name: BRK imm8) (R224). -/
def execUnimpCD (s : State) : Result := unimplementedOp 0xCD s

/-- CE: unimplemented (silicon name: BRKV) (R224). -/
def execUnimpCE (s : State) : Result := unimplementedOp 0xCE s

/-- CF: unimplemented (silicon name: RETI) (R224). -/
def execUnimpCF (s : State) : Result := unimplementedOp 0xCF s

/-- D4: unimplemented (silicon name: CVTBD) (R80). -/
def execUnimpD4 (s : State) : Result := unimplementedOp 0xD4 s

/-- D5: unimplemented (silicon name: CVTDB) (R80). -/
def execUnimpD5 (s : State) : Result := unimplementedOp 0xD5 s

/-- D6: unimplemented (silicon name: (undefined on the silicon)) (R80). -/
def execUnimpD6 (s : State) : Result := unimplementedOp 0xD6 s

/-- D7: unimplemented (silicon name: TRANS) (R80). -/
def execUnimpD7 (s : State) : Result := unimplementedOp 0xD7 s

/-- D8: unimplemented (silicon name: FPO1) (R80). -/
def execUnimpD8 (s : State) : Result := unimplementedOp 0xD8 s

/-- D9: unimplemented (silicon name: FPO1) (R80). -/
def execUnimpD9 (s : State) : Result := unimplementedOp 0xD9 s

/-- DA: unimplemented (silicon name: FPO1) (R80). -/
def execUnimpDA (s : State) : Result := unimplementedOp 0xDA s

/-- DB: unimplemented (silicon name: FPO1) (R80). -/
def execUnimpDB (s : State) : Result := unimplementedOp 0xDB s

/-- DC: unimplemented (silicon name: FPO1) (R80). -/
def execUnimpDC (s : State) : Result := unimplementedOp 0xDC s

/-- DD: unimplemented (silicon name: FPO1) (R80). -/
def execUnimpDD (s : State) : Result := unimplementedOp 0xDD s

/-- DE: unimplemented (silicon name: FPO1) (R80). -/
def execUnimpDE (s : State) : Result := unimplementedOp 0xDE s

/-- DF: unimplemented (silicon name: FPO1) (R80). -/
def execUnimpDF (s : State) : Result := unimplementedOp 0xDF s

/-- E0: unimplemented (silicon name: DBNZNE) (R224). -/
def execUnimpE0 (s : State) : Result := unimplementedOp 0xE0 s

/-- E1: unimplemented (silicon name: DBNZE) (R224). -/
def execUnimpE1 (s : State) : Result := unimplementedOp 0xE1 s

/-- E2: unimplemented (silicon name: DBNZ) (R224). -/
def execUnimpE2 (s : State) : Result := unimplementedOp 0xE2 s

/-- E3: unimplemented (silicon name: BCWZ) (R224). -/
def execUnimpE3 (s : State) : Result := unimplementedOp 0xE3 s

/-- F0: unimplemented (silicon name: BUSLOCK) (R80). -/
def execUnimpF0 (s : State) : Result := unimplementedOp 0xF0 s

/-- F1: unimplemented (silicon name: (undefined on the silicon)) (R80). -/
def execUnimpF1 (s : State) : Result := unimplementedOp 0xF1 s

/-- F2: unimplemented (silicon name: REPNE) (R190). -/
def execUnimpF2 (s : State) : Result := unimplementedOp 0xF2 s

/-- F3: REP 00/C0 (follower not repeatable) (R186). -/
def execRepUnimp00 (follower : Byte) (s : State) : Result := unimplementedSub 0xF3 follower s

/-- F3: REP 40/E0 (follower not repeatable) (R186). -/
def execRepUnimp40 (follower : Byte) (s : State) : Result := unimplementedSub 0xF3 follower s

/-- F3: REP 60/F8 (follower not repeatable) (R186). -/
def execRepUnimp60 (follower : Byte) (s : State) : Result := unimplementedSub 0xF3 follower s

/-- F3: REP 68/FC (follower not repeatable) (R186). -/
def execRepUnimp68 (follower : Byte) (s : State) : Result := unimplementedSub 0xF3 follower s

/-- F3: REP 70/F0 (follower not repeatable) (R186). -/
def execRepUnimp70 (follower : Byte) (s : State) : Result := unimplementedSub 0xF3 follower s

/-- F3: REP 80/E0 (follower not repeatable) (R186). -/
def execRepUnimp80 (follower : Byte) (s : State) : Result := unimplementedSub 0xF3 follower s

/-- F3: REP A0/FC (follower not repeatable) (R186). -/
def execRepUnimpA0 (follower : Byte) (s : State) : Result := unimplementedSub 0xF3 follower s

/-- F3 A6: REP CMPBK byte (unimplemented) (R187). -/
def execRepCmpbkByteUnimp (s : State) : Result := unimplementedSub 0xF3 0xA6 s

/-- F3 A7: REP CMPBK word (unimplemented) (R187). -/
def execRepCmpbkWordUnimp (s : State) : Result := unimplementedSub 0xF3 0xA7 s

/-- F3: REP A8/FE (follower not repeatable) (R186). -/
def execRepUnimpA8 (follower : Byte) (s : State) : Result := unimplementedSub 0xF3 follower s

/-- F3 AE: REP CMPM byte (unimplemented) (R188). -/
def execRepCmpmByteUnimp (s : State) : Result := unimplementedSub 0xF3 0xAE s

/-- F3 AF: REP CMPM word (unimplemented) (R188). -/
def execRepCmpmWordUnimp (s : State) : Result := unimplementedSub 0xF3 0xAF s

/-- F3: REP B0/F0 (follower not repeatable) (R186). -/
def execRepUnimpB0 (follower : Byte) (s : State) : Result := unimplementedSub 0xF3 follower s

/-- F3: REP C0/C0 (follower not repeatable) (R186). -/
def execRepUnimpC0 (follower : Byte) (s : State) : Result := unimplementedSub 0xF3 follower s

/-- F4: unimplemented (silicon name: HALT) (R224). -/
def execUnimpF4 (s : State) : Result := unimplementedOp 0xF4 s

/-- F5: unimplemented (silicon name: NOT1 CY) (R80). -/
def execUnimpF5 (s : State) : Result := unimplementedOp 0xF5 s

/-- F6: /0../3 (unimplemented) (R285). -/
def execGroupF6Unimp0to3 (rm : RM8) (code : BitVec 3) (s : State) : Result := unimplementedSub 0xF6 (rm.modrm8 code) s

/-- F6: /4,/5 (unimplemented) (R285). -/
def execGroupF6Unimp4to5 (rm : RM8) (code : BitVec 3) (s : State) : Result := unimplementedSub 0xF6 (rm.modrm8 code) s

/-- F7: /0../3 (unimplemented) (R285). -/
def execGroupF7Unimp0to3 (rm : RM16) (code : BitVec 3) (s : State) : Result :=
  unimplementedSub 0xF7 (rm.modrm16 code) s

/-- F7: /4,/5 (unimplemented) (R285). -/
def execGroupF7Unimp4to5 (rm : RM16) (code : BitVec 3) (s : State) : Result :=
  unimplementedSub 0xF7 (rm.modrm16 code) s

/-- F8: unimplemented (silicon name: CLR1 CY) (R80). -/
def execUnimpF8 (s : State) : Result := unimplementedOp 0xF8 s

/-- F9: unimplemented (silicon name: SET1 CY) (R80). -/
def execUnimpF9 (s : State) : Result := unimplementedOp 0xF9 s

/-- FA: unimplemented (silicon name: DI) (R80). -/
def execUnimpFA (s : State) : Result := unimplementedOp 0xFA s

/-- FB: unimplemented (silicon name: EI) (R80). -/
def execUnimpFB (s : State) : Result := unimplementedOp 0xFB s

/-- FC: unimplemented (silicon name: CLR1 DIR) (R80). -/
def execUnimpFC (s : State) : Result := unimplementedOp 0xFC s

/-- FD: unimplemented (silicon name: SET1 DIR) (R80). -/
def execUnimpFD (s : State) : Result := unimplementedOp 0xFD s

/-- FE: unimplemented (silicon name: group INC/DEC r/m8) (R80). -/
def execUnimpFE (s : State) : Result := unimplementedOp 0xFE s

/-- FF: unimplemented (silicon name: group INC/DEC/CALL/BR/PUSH r/m16) (R80). -/
def execUnimpFF (s : State) : Result := unimplementedOp 0xFF s

end Sys2Proof.Machine
end

