-- ==== Sys2Proof/Machine/Dispatch.lean ====
section
/-! DEFINITION. The dispatch table: one arm per constructor of `Instr`, one direct call of its meaning. -/

namespace Sys2Proof.Machine

def exec (i : Instr) (s : State) : Host.Outcome State Fault Refusal :=
  match i with
  | .addRm8Reg8 rm reg => Sys2Proof.Machine.execAddRm8Reg8 rm reg s
  | .addRm16Reg16 rm reg => Sys2Proof.Machine.execAddRm16Reg16 rm reg s
  | .addReg8Rm8 reg rm => Sys2Proof.Machine.execAddReg8Rm8 reg rm s
  | .addReg16Rm16 reg rm => Sys2Proof.Machine.execAddReg16Rm16 reg rm s
  | .addAlImm8 imm => Sys2Proof.Machine.execAddAlImm8 imm s
  | .addAwImm16 imm => Sys2Proof.Machine.execAddAwImm16 imm s
  | .pushDs1 => Sys2Proof.Machine.execPushDs1 s
  | .popDs1 => Sys2Proof.Machine.execPopDs1 s
  | .orRm8Reg8 rm reg => Sys2Proof.Machine.execOrRm8Reg8 rm reg s
  | .orRm16Reg16 rm reg => Sys2Proof.Machine.execOrRm16Reg16 rm reg s
  | .orReg8Rm8 reg rm => Sys2Proof.Machine.execOrReg8Rm8 reg rm s
  | .orReg16Rm16 reg rm => Sys2Proof.Machine.execOrReg16Rm16 reg rm s
  | .orAlImm8 imm => Sys2Proof.Machine.execOrAlImm8 imm s
  | .orAwImm16 imm => Sys2Proof.Machine.execOrAwImm16 imm s
  | .pushPs => Sys2Proof.Machine.execPushPs s
  | .escUnimp00 sub => Sys2Proof.Machine.execEscUnimp00 sub s
  | .escUnimp80 sub => Sys2Proof.Machine.execEscUnimp80 sub s
  | .escUnimpC0 sub => Sys2Proof.Machine.execEscUnimpC0 sub s
  | .brkxa n => Sys2Proof.Machine.execBrkxa n s
  | .escUnimpE1 => Sys2Proof.Machine.execEscUnimpE1 s
  | .escUnimpE2 sub => Sys2Proof.Machine.execEscUnimpE2 sub s
  | .escUnimpE4 sub => Sys2Proof.Machine.execEscUnimpE4 sub s
  | .escUnimpE8 sub => Sys2Proof.Machine.execEscUnimpE8 sub s
  | .retxa n => Sys2Proof.Machine.execRetxa n s
  | .escUnimpF1 => Sys2Proof.Machine.execEscUnimpF1 s
  | .escUnimpF2 sub => Sys2Proof.Machine.execEscUnimpF2 sub s
  | .escUnimpF4 sub => Sys2Proof.Machine.execEscUnimpF4 sub s
  | .escUnimpF8 sub => Sys2Proof.Machine.execEscUnimpF8 sub s
  | .unimp10 => Sys2Proof.Machine.execUnimp10 s
  | .unimp11 => Sys2Proof.Machine.execUnimp11 s
  | .unimp12 => Sys2Proof.Machine.execUnimp12 s
  | .unimp13 => Sys2Proof.Machine.execUnimp13 s
  | .unimp14 => Sys2Proof.Machine.execUnimp14 s
  | .unimp15 => Sys2Proof.Machine.execUnimp15 s
  | .pushSs => Sys2Proof.Machine.execPushSs s
  | .popSs => Sys2Proof.Machine.execPopSs s
  | .unimp18 => Sys2Proof.Machine.execUnimp18 s
  | .unimp19 => Sys2Proof.Machine.execUnimp19 s
  | .unimp1A => Sys2Proof.Machine.execUnimp1A s
  | .unimp1B => Sys2Proof.Machine.execUnimp1B s
  | .unimp1C => Sys2Proof.Machine.execUnimp1C s
  | .unimp1D => Sys2Proof.Machine.execUnimp1D s
  | .pushDs0 => Sys2Proof.Machine.execPushDs0 s
  | .popDs0 => Sys2Proof.Machine.execPopDs0 s
  | .andRm8Reg8 rm reg => Sys2Proof.Machine.execAndRm8Reg8 rm reg s
  | .andRm16Reg16 rm reg => Sys2Proof.Machine.execAndRm16Reg16 rm reg s
  | .andReg8Rm8 reg rm => Sys2Proof.Machine.execAndReg8Rm8 reg rm s
  | .andReg16Rm16 reg rm => Sys2Proof.Machine.execAndReg16Rm16 reg rm s
  | .andAlImm8 imm => Sys2Proof.Machine.execAndAlImm8 imm s
  | .andAwImm16 imm => Sys2Proof.Machine.execAndAwImm16 imm s
  | .prefixDs1 => Sys2Proof.Machine.execPrefixDs1 s
  | .unimp27 => Sys2Proof.Machine.execUnimp27 s
  | .subRm8Reg8 rm reg => Sys2Proof.Machine.execSubRm8Reg8 rm reg s
  | .subRm16Reg16 rm reg => Sys2Proof.Machine.execSubRm16Reg16 rm reg s
  | .subReg8Rm8 reg rm => Sys2Proof.Machine.execSubReg8Rm8 reg rm s
  | .subReg16Rm16 reg rm => Sys2Proof.Machine.execSubReg16Rm16 reg rm s
  | .subAlImm8 imm => Sys2Proof.Machine.execSubAlImm8 imm s
  | .subAwImm16 imm => Sys2Proof.Machine.execSubAwImm16 imm s
  | .prefixPs => Sys2Proof.Machine.execPrefixPs s
  | .unimp2F => Sys2Proof.Machine.execUnimp2F s
  | .xorRm8Reg8 rm reg => Sys2Proof.Machine.execXorRm8Reg8 rm reg s
  | .xorRm16Reg16 rm reg => Sys2Proof.Machine.execXorRm16Reg16 rm reg s
  | .xorReg8Rm8 reg rm => Sys2Proof.Machine.execXorReg8Rm8 reg rm s
  | .xorReg16Rm16 reg rm => Sys2Proof.Machine.execXorReg16Rm16 reg rm s
  | .xorAlImm8 imm => Sys2Proof.Machine.execXorAlImm8 imm s
  | .xorAwImm16 imm => Sys2Proof.Machine.execXorAwImm16 imm s
  | .prefixSs => Sys2Proof.Machine.execPrefixSs s
  | .unimp37 => Sys2Proof.Machine.execUnimp37 s
  | .cmpRm8Reg8 rm reg => Sys2Proof.Machine.execCmpRm8Reg8 rm reg s
  | .cmpRm16Reg16 rm reg => Sys2Proof.Machine.execCmpRm16Reg16 rm reg s
  | .cmpReg8Rm8 reg rm => Sys2Proof.Machine.execCmpReg8Rm8 reg rm s
  | .cmpReg16Rm16 reg rm => Sys2Proof.Machine.execCmpReg16Rm16 reg rm s
  | .cmpAlImm8 imm => Sys2Proof.Machine.execCmpAlImm8 imm s
  | .cmpAwImm16 imm => Sys2Proof.Machine.execCmpAwImm16 imm s
  | .prefixDs0 => Sys2Proof.Machine.execPrefixDs0 s
  | .unimp3F => Sys2Proof.Machine.execUnimp3F s
  | .incReg16 reg => Sys2Proof.Machine.execIncReg16 reg s
  | .decReg16 reg => Sys2Proof.Machine.execDecReg16 reg s
  | .pushReg16 reg => Sys2Proof.Machine.execPushReg16 reg s
  | .popReg16 reg => Sys2Proof.Machine.execPopReg16 reg s
  | .unimp60 => Sys2Proof.Machine.execUnimp60 s
  | .unimp61 => Sys2Proof.Machine.execUnimp61 s
  | .unimp62 => Sys2Proof.Machine.execUnimp62 s
  | .unimp63 => Sys2Proof.Machine.execUnimp63 s
  | .unimp64 => Sys2Proof.Machine.execUnimp64 s
  | .unimp65 => Sys2Proof.Machine.execUnimp65 s
  | .unimp66 => Sys2Proof.Machine.execUnimp66 s
  | .unimp67 => Sys2Proof.Machine.execUnimp67 s
  | .unimp68 => Sys2Proof.Machine.execUnimp68 s
  | .unimp69 => Sys2Proof.Machine.execUnimp69 s
  | .unimp6A => Sys2Proof.Machine.execUnimp6A s
  | .unimp6B => Sys2Proof.Machine.execUnimp6B s
  | .inmByte => Sys2Proof.Machine.execInmByte s
  | .inmWord => Sys2Proof.Machine.execInmWord s
  | .outmByte => Sys2Proof.Machine.execOutmByte s
  | .outmWord => Sys2Proof.Machine.execOutmWord s
  | .bv disp => Sys2Proof.Machine.execBv disp s
  | .bnv disp => Sys2Proof.Machine.execBnv disp s
  | .bc disp => Sys2Proof.Machine.execBc disp s
  | .bnc disp => Sys2Proof.Machine.execBnc disp s
  | .be disp => Sys2Proof.Machine.execBe disp s
  | .bne disp => Sys2Proof.Machine.execBne disp s
  | .bnh disp => Sys2Proof.Machine.execBnh disp s
  | .bh disp => Sys2Proof.Machine.execBh disp s
  | .bn disp => Sys2Proof.Machine.execBn disp s
  | .bp disp => Sys2Proof.Machine.execBp disp s
  | .bpe disp => Sys2Proof.Machine.execBpe disp s
  | .bpo disp => Sys2Proof.Machine.execBpo disp s
  | .blt disp => Sys2Proof.Machine.execBlt disp s
  | .bge disp => Sys2Proof.Machine.execBge disp s
  | .ble disp => Sys2Proof.Machine.execBle disp s
  | .bgt disp => Sys2Proof.Machine.execBgt disp s
  | .addRm8Imm8 rm imm => Sys2Proof.Machine.execAddRm8Imm8 rm imm s
  | .orRm8Imm8 rm imm => Sys2Proof.Machine.execOrRm8Imm8 rm imm s
  | .addcRm8Imm8Unimp rm => Sys2Proof.Machine.execAddcRm8Imm8Unimp rm s
  | .subcRm8Imm8Unimp rm => Sys2Proof.Machine.execSubcRm8Imm8Unimp rm s
  | .andRm8Imm8 rm imm => Sys2Proof.Machine.execAndRm8Imm8 rm imm s
  | .subRm8Imm8 rm imm => Sys2Proof.Machine.execSubRm8Imm8 rm imm s
  | .xorRm8Imm8 rm imm => Sys2Proof.Machine.execXorRm8Imm8 rm imm s
  | .cmpRm8Imm8 rm imm => Sys2Proof.Machine.execCmpRm8Imm8 rm imm s
  | .addRm16Imm16 rm imm => Sys2Proof.Machine.execAddRm16Imm16 rm imm s
  | .orRm16Imm16 rm imm => Sys2Proof.Machine.execOrRm16Imm16 rm imm s
  | .addcRm16Imm16Unimp rm => Sys2Proof.Machine.execAddcRm16Imm16Unimp rm s
  | .subcRm16Imm16Unimp rm => Sys2Proof.Machine.execSubcRm16Imm16Unimp rm s
  | .andRm16Imm16 rm imm => Sys2Proof.Machine.execAndRm16Imm16 rm imm s
  | .subRm16Imm16 rm imm => Sys2Proof.Machine.execSubRm16Imm16 rm imm s
  | .xorRm16Imm16 rm imm => Sys2Proof.Machine.execXorRm16Imm16 rm imm s
  | .cmpRm16Imm16 rm imm => Sys2Proof.Machine.execCmpRm16Imm16 rm imm s
  | .unimp82 => Sys2Proof.Machine.execUnimp82 s
  | .addRm16Simm8 rm imm => Sys2Proof.Machine.execAddRm16Simm8 rm imm s
  | .orRm16Simm8 rm imm => Sys2Proof.Machine.execOrRm16Simm8 rm imm s
  | .addcRm16Simm8Unimp rm => Sys2Proof.Machine.execAddcRm16Simm8Unimp rm s
  | .subcRm16Simm8Unimp rm => Sys2Proof.Machine.execSubcRm16Simm8Unimp rm s
  | .andRm16Simm8 rm imm => Sys2Proof.Machine.execAndRm16Simm8 rm imm s
  | .subRm16Simm8 rm imm => Sys2Proof.Machine.execSubRm16Simm8 rm imm s
  | .xorRm16Simm8 rm imm => Sys2Proof.Machine.execXorRm16Simm8 rm imm s
  | .cmpRm16Simm8 rm imm => Sys2Proof.Machine.execCmpRm16Simm8 rm imm s
  | .unimp84 => Sys2Proof.Machine.execUnimp84 s
  | .unimp85 => Sys2Proof.Machine.execUnimp85 s
  | .unimp86 => Sys2Proof.Machine.execUnimp86 s
  | .unimp87 => Sys2Proof.Machine.execUnimp87 s
  | .movRm8Reg8 rm reg => Sys2Proof.Machine.execMovRm8Reg8 rm reg s
  | .movRm16Reg16 rm reg => Sys2Proof.Machine.execMovRm16Reg16 rm reg s
  | .movReg8Rm8 reg rm => Sys2Proof.Machine.execMovReg8Rm8 reg rm s
  | .movReg16Rm16 reg rm => Sys2Proof.Machine.execMovReg16Rm16 reg rm s
  | .movRm16Sreg rm src => Sys2Proof.Machine.execMovRm16Sreg rm src s
  | .movRm16SregUndef rm code => Sys2Proof.Machine.execMovRm16SregUndef rm code s
  | .unimp8D => Sys2Proof.Machine.execUnimp8D s
  | .movDs1Rm16 rm => Sys2Proof.Machine.execMovDs1Rm16 rm s
  | .movPsRm16Undef rm => Sys2Proof.Machine.execMovPsRm16Undef rm s
  | .movSsDs0Rm16 dst rm => Sys2Proof.Machine.execMovSsDs0Rm16 dst rm s
  | .movSregRm16Undef rm code => Sys2Proof.Machine.execMovSregRm16Undef rm code s
  | .unimp8F => Sys2Proof.Machine.execUnimp8F s
  | .unimp90 => Sys2Proof.Machine.execUnimp90 s
  | .unimp91 => Sys2Proof.Machine.execUnimp91 s
  | .unimp92 => Sys2Proof.Machine.execUnimp92 s
  | .unimp93 => Sys2Proof.Machine.execUnimp93 s
  | .unimp94 => Sys2Proof.Machine.execUnimp94 s
  | .unimp95 => Sys2Proof.Machine.execUnimp95 s
  | .unimp96 => Sys2Proof.Machine.execUnimp96 s
  | .unimp97 => Sys2Proof.Machine.execUnimp97 s
  | .unimp98 => Sys2Proof.Machine.execUnimp98 s
  | .unimp99 => Sys2Proof.Machine.execUnimp99 s
  | .callFar off seg => Sys2Proof.Machine.execCallFar off seg s
  | .unimp9B => Sys2Proof.Machine.execUnimp9B s
  | .pushPsw => Sys2Proof.Machine.execPushPsw s
  | .popPsw => Sys2Proof.Machine.execPopPsw s
  | .unimp9E => Sys2Proof.Machine.execUnimp9E s
  | .unimp9F => Sys2Proof.Machine.execUnimp9F s
  | .movAlDirect addr => Sys2Proof.Machine.execMovAlDirect addr s
  | .movAwDirect addr => Sys2Proof.Machine.execMovAwDirect addr s
  | .movDirectAl addr => Sys2Proof.Machine.execMovDirectAl addr s
  | .movDirectAw addr => Sys2Proof.Machine.execMovDirectAw addr s
  | .movbkByte => Sys2Proof.Machine.execMovbkByte s
  | .movbkWord => Sys2Proof.Machine.execMovbkWord s
  | .cmpbkByteUnimp => Sys2Proof.Machine.execCmpbkByteUnimp s
  | .cmpbkWordUnimp => Sys2Proof.Machine.execCmpbkWordUnimp s
  | .unimpA8 => Sys2Proof.Machine.execUnimpA8 s
  | .unimpA9 => Sys2Proof.Machine.execUnimpA9 s
  | .stmByte => Sys2Proof.Machine.execStmByte s
  | .stmWord => Sys2Proof.Machine.execStmWord s
  | .ldmByte => Sys2Proof.Machine.execLdmByte s
  | .ldmWord => Sys2Proof.Machine.execLdmWord s
  | .cmpmByteUnimp => Sys2Proof.Machine.execCmpmByteUnimp s
  | .cmpmWordUnimp => Sys2Proof.Machine.execCmpmWordUnimp s
  | .movReg8Imm8 reg imm => Sys2Proof.Machine.execMovReg8Imm8 reg imm s
  | .movReg16Imm16 reg imm => Sys2Proof.Machine.execMovReg16Imm16 reg imm s
  | .rolRm8Imm8 rm count => Sys2Proof.Machine.execRolRm8Imm8 rm count s
  | .rorRm8Imm8 rm count => Sys2Proof.Machine.execRorRm8Imm8 rm count s
  | .rolcRm8Imm8 rm count => Sys2Proof.Machine.execRolcRm8Imm8 rm count s
  | .rorcRm8Imm8 rm count => Sys2Proof.Machine.execRorcRm8Imm8 rm count s
  | .shlRm8Imm8 rm count => Sys2Proof.Machine.execShlRm8Imm8 rm count s
  | .shrRm8Imm8 rm count => Sys2Proof.Machine.execShrRm8Imm8 rm count s
  | .shiftC0Undef rm => Sys2Proof.Machine.execShiftC0Undef rm s
  | .shraRm8Imm8 rm count => Sys2Proof.Machine.execShraRm8Imm8 rm count s
  | .rolRm16Imm8 rm count => Sys2Proof.Machine.execRolRm16Imm8 rm count s
  | .rorRm16Imm8 rm count => Sys2Proof.Machine.execRorRm16Imm8 rm count s
  | .rolcRm16Imm8 rm count => Sys2Proof.Machine.execRolcRm16Imm8 rm count s
  | .rorcRm16Imm8 rm count => Sys2Proof.Machine.execRorcRm16Imm8 rm count s
  | .shlRm16Imm8 rm count => Sys2Proof.Machine.execShlRm16Imm8 rm count s
  | .shrRm16Imm8 rm count => Sys2Proof.Machine.execShrRm16Imm8 rm count s
  | .shiftC1Undef rm => Sys2Proof.Machine.execShiftC1Undef rm s
  | .shraRm16Imm8 rm count => Sys2Proof.Machine.execShraRm16Imm8 rm count s
  | .unimpC2 => Sys2Proof.Machine.execUnimpC2 s
  | .retNear => Sys2Proof.Machine.execRetNear s
  | .unimpC4 => Sys2Proof.Machine.execUnimpC4 s
  | .unimpC5 => Sys2Proof.Machine.execUnimpC5 s
  | .movRm8Imm8 rm imm => Sys2Proof.Machine.execMovRm8Imm8 rm imm s
  | .movC6Undef1 rm => Sys2Proof.Machine.execMovC6Undef1 rm s
  | .movC6Undef2to3 rm code => Sys2Proof.Machine.execMovC6Undef2to3 rm code s
  | .movC6Undef4to7 rm code => Sys2Proof.Machine.execMovC6Undef4to7 rm code s
  | .movRm16Imm16 rm imm => Sys2Proof.Machine.execMovRm16Imm16 rm imm s
  | .movC7Undef1 rm => Sys2Proof.Machine.execMovC7Undef1 rm s
  | .movC7Undef2to3 rm code => Sys2Proof.Machine.execMovC7Undef2to3 rm code s
  | .movC7Undef4to7 rm code => Sys2Proof.Machine.execMovC7Undef4to7 rm code s
  | .unimpC8 => Sys2Proof.Machine.execUnimpC8 s
  | .unimpC9 => Sys2Proof.Machine.execUnimpC9 s
  | .unimpCA => Sys2Proof.Machine.execUnimpCA s
  | .retFar => Sys2Proof.Machine.execRetFar s
  | .unimpCC => Sys2Proof.Machine.execUnimpCC s
  | .unimpCD => Sys2Proof.Machine.execUnimpCD s
  | .unimpCE => Sys2Proof.Machine.execUnimpCE s
  | .unimpCF => Sys2Proof.Machine.execUnimpCF s
  | .rolRm8One rm => Sys2Proof.Machine.execRolRm8One rm s
  | .rorRm8One rm => Sys2Proof.Machine.execRorRm8One rm s
  | .rolcRm8One rm => Sys2Proof.Machine.execRolcRm8One rm s
  | .rorcRm8One rm => Sys2Proof.Machine.execRorcRm8One rm s
  | .shlRm8One rm => Sys2Proof.Machine.execShlRm8One rm s
  | .shrRm8One rm => Sys2Proof.Machine.execShrRm8One rm s
  | .shiftD0Undef rm => Sys2Proof.Machine.execShiftD0Undef rm s
  | .shraRm8One rm => Sys2Proof.Machine.execShraRm8One rm s
  | .rolRm16One rm => Sys2Proof.Machine.execRolRm16One rm s
  | .rorRm16One rm => Sys2Proof.Machine.execRorRm16One rm s
  | .rolcRm16One rm => Sys2Proof.Machine.execRolcRm16One rm s
  | .rorcRm16One rm => Sys2Proof.Machine.execRorcRm16One rm s
  | .shlRm16One rm => Sys2Proof.Machine.execShlRm16One rm s
  | .shrRm16One rm => Sys2Proof.Machine.execShrRm16One rm s
  | .shiftD1Undef rm => Sys2Proof.Machine.execShiftD1Undef rm s
  | .shraRm16One rm => Sys2Proof.Machine.execShraRm16One rm s
  | .rolRm8Cl rm => Sys2Proof.Machine.execRolRm8Cl rm s
  | .rorRm8Cl rm => Sys2Proof.Machine.execRorRm8Cl rm s
  | .rolcRm8Cl rm => Sys2Proof.Machine.execRolcRm8Cl rm s
  | .rorcRm8Cl rm => Sys2Proof.Machine.execRorcRm8Cl rm s
  | .shlRm8Cl rm => Sys2Proof.Machine.execShlRm8Cl rm s
  | .shrRm8Cl rm => Sys2Proof.Machine.execShrRm8Cl rm s
  | .shiftD2Undef rm => Sys2Proof.Machine.execShiftD2Undef rm s
  | .shraRm8Cl rm => Sys2Proof.Machine.execShraRm8Cl rm s
  | .rolRm16Cl rm => Sys2Proof.Machine.execRolRm16Cl rm s
  | .rorRm16Cl rm => Sys2Proof.Machine.execRorRm16Cl rm s
  | .rolcRm16Cl rm => Sys2Proof.Machine.execRolcRm16Cl rm s
  | .rorcRm16Cl rm => Sys2Proof.Machine.execRorcRm16Cl rm s
  | .shlRm16Cl rm => Sys2Proof.Machine.execShlRm16Cl rm s
  | .shrRm16Cl rm => Sys2Proof.Machine.execShrRm16Cl rm s
  | .shiftD3Undef rm => Sys2Proof.Machine.execShiftD3Undef rm s
  | .shraRm16Cl rm => Sys2Proof.Machine.execShraRm16Cl rm s
  | .unimpD4 => Sys2Proof.Machine.execUnimpD4 s
  | .unimpD5 => Sys2Proof.Machine.execUnimpD5 s
  | .unimpD6 => Sys2Proof.Machine.execUnimpD6 s
  | .unimpD7 => Sys2Proof.Machine.execUnimpD7 s
  | .unimpD8 => Sys2Proof.Machine.execUnimpD8 s
  | .unimpD9 => Sys2Proof.Machine.execUnimpD9 s
  | .unimpDA => Sys2Proof.Machine.execUnimpDA s
  | .unimpDB => Sys2Proof.Machine.execUnimpDB s
  | .unimpDC => Sys2Proof.Machine.execUnimpDC s
  | .unimpDD => Sys2Proof.Machine.execUnimpDD s
  | .unimpDE => Sys2Proof.Machine.execUnimpDE s
  | .unimpDF => Sys2Proof.Machine.execUnimpDF s
  | .unimpE0 => Sys2Proof.Machine.execUnimpE0 s
  | .unimpE1 => Sys2Proof.Machine.execUnimpE1 s
  | .unimpE2 => Sys2Proof.Machine.execUnimpE2 s
  | .unimpE3 => Sys2Proof.Machine.execUnimpE3 s
  | .inAlImm8 port => Sys2Proof.Machine.execInAlImm8 port s
  | .inAwImm8 port => Sys2Proof.Machine.execInAwImm8 port s
  | .outImm8Al port => Sys2Proof.Machine.execOutImm8Al port s
  | .outImm8Aw port => Sys2Proof.Machine.execOutImm8Aw port s
  | .callNear disp => Sys2Proof.Machine.execCallNear disp s
  | .brNear disp => Sys2Proof.Machine.execBrNear disp s
  | .brFar off seg => Sys2Proof.Machine.execBrFar off seg s
  | .brShort disp => Sys2Proof.Machine.execBrShort disp s
  | .inAlDw => Sys2Proof.Machine.execInAlDw s
  | .inAwDw => Sys2Proof.Machine.execInAwDw s
  | .outDwAl => Sys2Proof.Machine.execOutDwAl s
  | .outDwAw => Sys2Proof.Machine.execOutDwAw s
  | .unimpF0 => Sys2Proof.Machine.execUnimpF0 s
  | .unimpF1 => Sys2Proof.Machine.execUnimpF1 s
  | .unimpF2 => Sys2Proof.Machine.execUnimpF2 s
  | .repUnimp00 follower => Sys2Proof.Machine.execRepUnimp00 follower s
  | .repUnimp40 follower => Sys2Proof.Machine.execRepUnimp40 follower s
  | .repUnimp60 follower => Sys2Proof.Machine.execRepUnimp60 follower s
  | .repUnimp68 follower => Sys2Proof.Machine.execRepUnimp68 follower s
  | .repInmByte => Sys2Proof.Machine.execRepInmByte s
  | .repInmWord => Sys2Proof.Machine.execRepInmWord s
  | .repOutmByte => Sys2Proof.Machine.execRepOutmByte s
  | .repOutmWord => Sys2Proof.Machine.execRepOutmWord s
  | .repUnimp70 follower => Sys2Proof.Machine.execRepUnimp70 follower s
  | .repUnimp80 follower => Sys2Proof.Machine.execRepUnimp80 follower s
  | .repUnimpA0 follower => Sys2Proof.Machine.execRepUnimpA0 follower s
  | .repMovbkByte => Sys2Proof.Machine.execRepMovbkByte s
  | .repMovbkWord => Sys2Proof.Machine.execRepMovbkWord s
  | .repCmpbkByteUnimp => Sys2Proof.Machine.execRepCmpbkByteUnimp s
  | .repCmpbkWordUnimp => Sys2Proof.Machine.execRepCmpbkWordUnimp s
  | .repUnimpA8 follower => Sys2Proof.Machine.execRepUnimpA8 follower s
  | .repStmByte => Sys2Proof.Machine.execRepStmByte s
  | .repStmWord => Sys2Proof.Machine.execRepStmWord s
  | .repLdmByte => Sys2Proof.Machine.execRepLdmByte s
  | .repLdmWord => Sys2Proof.Machine.execRepLdmWord s
  | .repCmpmByteUnimp => Sys2Proof.Machine.execRepCmpmByteUnimp s
  | .repCmpmWordUnimp => Sys2Proof.Machine.execRepCmpmWordUnimp s
  | .repUnimpB0 follower => Sys2Proof.Machine.execRepUnimpB0 follower s
  | .repUnimpC0 follower => Sys2Proof.Machine.execRepUnimpC0 follower s
  | .unimpF4 => Sys2Proof.Machine.execUnimpF4 s
  | .unimpF5 => Sys2Proof.Machine.execUnimpF5 s
  | .groupF6Unimp0to3 rm code => Sys2Proof.Machine.execGroupF6Unimp0to3 rm code s
  | .groupF6Unimp4to5 rm code => Sys2Proof.Machine.execGroupF6Unimp4to5 rm code s
  | .divuRm8 rm => Sys2Proof.Machine.execDivuRm8 rm s
  | .divRm8 rm => Sys2Proof.Machine.execDivRm8 rm s
  | .groupF7Unimp0to3 rm code => Sys2Proof.Machine.execGroupF7Unimp0to3 rm code s
  | .groupF7Unimp4to5 rm code => Sys2Proof.Machine.execGroupF7Unimp4to5 rm code s
  | .divuRm16 rm => Sys2Proof.Machine.execDivuRm16 rm s
  | .divRm16 rm => Sys2Proof.Machine.execDivRm16 rm s
  | .unimpF8 => Sys2Proof.Machine.execUnimpF8 s
  | .unimpF9 => Sys2Proof.Machine.execUnimpF9 s
  | .unimpFA => Sys2Proof.Machine.execUnimpFA s
  | .unimpFB => Sys2Proof.Machine.execUnimpFB s
  | .unimpFC => Sys2Proof.Machine.execUnimpFC s
  | .unimpFD => Sys2Proof.Machine.execUnimpFD s
  | .unimpFE => Sys2Proof.Machine.execUnimpFE s
  | .unimpFF => Sys2Proof.Machine.execUnimpFF s

end Sys2Proof.Machine
end

