-- ==== Sys2Proof/Machine/Driver.lean ====
section
/-! DEFINITION. The step driver of a core that is not halted (40_step_and_prefixes.md R100) and placing an instruction where
it fetches. -/

namespace Sys2Proof.Machine

/-- A byte of the program segment at PC plus `k`, modulo 2^16 (20_memory.md R46). -/
def State.codeByte (s : State) (k : Word) : Byte := s.memRead8 s.ps (s.pc + k)

/-- The six bytes at PS:PC, the longest instruction (30_encoding.md R70). Fetching changes nothing but PC, so the bytes an
instruction fetches one after the other are these (log 9). -/
def State.codeBytes (s : State) : List Byte :=
  [s.codeByte 0, s.codeByte 1, s.codeByte 2, s.codeByte 3, s.codeByte 4, s.codeByte 5]

/-- The state in which the decoded instruction executes: PC past the `n` bytes fetched, `last_opcode` the first of them. -/
def State.fetched (s : State) (n : Nat) : State :=
  (s.setLastOpcode (s.codeByte 0)).setPc (s.pc + BitVec.ofNat 16 n)

/-- The opcodes after which the driver keeps the override latch: the four segment prefixes (R100). -/
def isSegmentPrefix (op : Byte) : Bool := op == 0x26 || op == 0x2E || op == 0x36 || op == 0x3E

/-- The end of a completed step: the clock advances, and the latch is cleared unless the opcode was a segment prefix. -/
def State.endStep (s : State) (op : Byte) (cost : Nat) : State :=
  (s.setClock (s.clock + cost)).setSegOverride (if isSegmentPrefix op then s.segOverride else none)

/-- A step that raised ends at the raise: neither the clock update nor the latch clearing is performed (R100, R300). -/
def finishStep (op : Byte) (cost : Nat) : Result → Result
  | .next t => if t.halted.isSome then .next t else .next (t.endStep op cost)
  | .fault f => .fault f
  | .refused r => .refused r

/-- One step of a core that is not halted. The decoder refuses no six bytes; its refusal would be the invariant violation of
60_exceptions.md R305 (log 13). -/
def runStep (s : State) : Result :=
  match decode s.codeBytes with
  | .error _ => s.raise .invariantViolation
  | .ok (i, rest) =>
    let t := s.fetched (6 - rest.length)
    finishStep (s.codeByte 0) (cycles i t) (exec i t)

/-- Bytes written at PS:PC and on, through the bank select as it is, as a host write does. -/
def placeCode (s : State) : Word → List Byte → State
  | _, [] => s
  | k, b :: bs => placeCode (s.memWrite8 s.ps (s.pc + k) b) (k + 1) bs

end Sys2Proof.Machine
end

