-- ==== Sys2Proof/Machine/Step.lean ====
section
/-! DEFINITION. The step of the machine and the place of the host's word. -/

namespace Sys2Proof.Machine

/-- `step` (40_step_and_prefixes.md R100): a halted core takes no step and answers the fault it recorded (60_exceptions.md
R300; log 1). -/
def step (s : State) : Host.Outcome State Fault Refusal :=
  match s.halted with
  | some f => .fault f
  | none => runStep s

/-- `s` with one instruction, numbered as spec/opcode_table.json numbers it, at PS:PC, and not halted, so that the next step
runs it (log 16). -/
def State.withFetchWord (s : State) (nbits w : Nat) : State :=
  placeCode (s.setHalted none) 0 (tableWordBytes nbits w)

end Sys2Proof.Machine
end

