-- ==== Sys2Proof/Machine/HostOps.lean ====
section
/-! DEFINITION. What the host does to the core outside a step: construction with an image (70_reset_and_hazards.md R330) and
writes between steps (60_exceptions.md R324). Introspection (R323) is reading the fields of the state. None of these is a
step (log 14). -/

namespace Sys2Proof.Machine

/-- `new(IMAGE)` for given open parameters: ImageTooLarge, or the reset state with the image from physical address 0
(R306, R330). -/
def construct (cfg : Config) (image : List Byte) : Result :=
  if Config.memSize < image.length then .fault (.imageTooLarge image.length)
  else .next { State.reset with memory := Mem.ofBytes 0 image, cfg := cfg }

namespace State

/-- The host writes a byte of port space: no trace entry, no observer (R324). -/
def hostWritePort (s : State) (p : Word) (v : Byte) : State := s.portWrite8 p v

/-- The host writes a byte of conventional memory; addresses outside the array are not in it. -/
def hostWriteMemory (s : State) (a : Nat) (v : Byte) : State :=
  if a < Config.memSize then s.setMemory (Mem.write s.memory a v) else s

/-- The host writes a byte of extended memory. -/
def hostWriteExtended (s : State) (a : Nat) (v : Byte) : State :=
  if a < Config.extSize then s.setExtended (Mem.write s.extended a v) else s

/-- The host writes a byte of the internal array, which no instruction reaches (10_state.md R25). -/
def hostWriteInternal (s : State) (a : Nat) (v : Byte) : State :=
  if a < Config.internalSize then { s with internal := Mem.write s.internal a v } else s

/-- The host sets a word register. -/
def hostSetReg16 (s : State) (r : Reg16) (v : Word) : State := s.setReg16 r v

/-- The host sets a byte register. -/
def hostSetReg8 (s : State) (r : Reg8) (v : Byte) : State := s.setReg8 r v

/-- The host sets a segment register, PS among them. -/
def hostSetSReg (s : State) (r : SReg) (v : Word) : State := s.setSReg r v

/-- The host sets PC. -/
def hostSetPc (s : State) (v : Word) : State := s.setPc v

/-- The host sets PSW. -/
def hostSetPsw (s : State) (v : Word) : State := s.setPsw v

end State

end Sys2Proof.Machine
end

