-- ==== Sys2Proof/Machine/Run.lean ====
section
/-! DEFINITION. The end of a run (60_exceptions.md R321: "a model must define the end of a run itself"): a step budget
(log 19). -/

namespace Sys2Proof.Machine

/-- The state after at most `budget` steps. A run ends when the budget is spent or at the first step that answers no next
state, which is the step of a halted core. -/
def run : Nat → State → State
  | 0, s => s
  | budget + 1, s =>
    match step s with
    | .next t => run budget t
    | .fault _ | .refused _ => s

end Sys2Proof.Machine
end

