-- ==== Sys2Proof/Safety.lean ====
section
/-! DEFINITION. What counts as a well-formed state and a running core, and the vocabulary in which statements say what an
instruction changes and what it leaves. -/

namespace Sys2Proof.Machine

/-- The invariant of the state: each byte array is canonical and inside its bounds (00_scope.md R5), and XA_MASK has exactly
one bit set (R6). -/
def State.wf (s : State) : Bool :=
  Mem.wf s.memory && Mem.below Config.memSize s.memory
    && Mem.wf s.extended && Mem.below Config.extSize s.extended
    && Mem.wf s.ports && Mem.below Config.portSize s.ports
    && Mem.wf s.internal && Mem.below Config.internalSize s.internal
    && s.cfg.wf

/-- A safe run is one in which the core keeps running: no fault has been raised (60_exceptions.md R300). -/
def State.running (s : State) : Bool := s.halted.isNone

/-- A run of `n` steps from `s` that ends well in `t`: "a faulted run is never a final, successful run" (60_exceptions.md R300;
the end of a run is R321's step budget, log 19). -/
def Completes (n : Nat) (s t : State) : Prop := run n s = t ∧ t.running = true

/-- The two arrays a physical address can reach (20_memory.md R42). -/
inductive Bank where
  | conventional | extended
  deriving DecidableEq, Repr

/-- One byte of memory: an array and a physical address. -/
abbrev ByteCell := Bank × Nat

/-- The byte a cell holds. -/
def State.cell (s : State) : ByteCell → Byte
  | (.conventional, a) => Mem.read s.memory a
  | (.extended, a) => Mem.read s.extended a

/-- The cell a byte access at `seg`:`off` reaches, through the bank select as it is in `s`. -/
def State.cellAt (s : State) (seg off : Word) : ByteCell :=
  (if s.selectsExtended (phys seg off) then .extended else .conventional, phys seg off)

/-- The cells a word access at `seg`:`off` reaches. -/
def State.wordCells (s : State) (seg off : Word) : List ByteCell := [s.cellAt seg off, s.cellAt seg (off + 1)]

/-- The cells a byte store to an operand reaches: none for a register. -/
def State.placeCells8 (s : State) : Place Reg8 → List ByteCell
  | .reg _ => []
  | .mem seg off => [s.cellAt seg off]

/-- The cells a word store to an operand reaches. -/
def State.placeCells16 (s : State) : Place Reg16 → List ByteCell
  | .reg _ => []
  | .mem seg off => s.wordCells seg off

/-- The byte register an operand is. -/
def placeRegs8 : Place Reg8 → List Reg8
  | .reg r => [r]
  | .mem _ _ => []

/-- The word register an operand is. -/
def placeRegs16 : Place Reg16 → List Reg16
  | .reg r => [r]
  | .mem _ _ => []

/-- What an instruction may change. PC is not in it: each statement says what PC becomes. -/
structure Changes where
  /-- word registers -/
  regs : List Reg16 := []
  /-- byte registers -/
  halves : List Reg8 := []
  sregs : List SReg := []
  flags : List Flag := []
  /-- the PSW as a whole, its undefined bits included -/
  allPsw : Bool := false
  cells : List ByteCell := []
  ports : List Word := []
  /-- what is appended to the output trace -/
  output : List (Word × Byte) := []

/-- From `s` to `t` nothing but what `c` names has changed: every other register, register half, segment register, PSW bit,
byte of memory and port is as before; the internal array, the override latch, the last opcode, the clock, the halted status
and the parameters are as before; the trace has grown by exactly `c.output`. -/
structure OnlyChanges (c : Changes) (s t : State) : Prop where
  regs : ∀ r, r ∉ c.regs → (∀ h ∈ c.halves, parentOf h ≠ r) → t.reg16 r = s.reg16 r
  halves : ∀ h, h ∉ c.halves → parentOf h ∉ c.regs → t.reg8 h = s.reg8 h
  sregs : ∀ r, r ∉ c.sregs → t.sreg r = s.sreg r
  psw : c.allPsw = false → ∀ i, (∀ f ∈ c.flags, f.bit ≠ i) → t.psw.getLsbD i = s.psw.getLsbD i
  cells : ∀ x, x ∉ c.cells → t.cell x = s.cell x
  ports : ∀ p, p ∉ c.ports → t.portRead8 p = s.portRead8 p
  internal : t.internal = s.internal
  segOverride : t.segOverride = s.segOverride
  lastOpcode : t.lastOpcode = s.lastOpcode
  clock : t.clock = s.clock
  trace : t.trace = s.trace ++ c.output
  halted : t.halted = s.halted
  cfg : t.cfg = s.cfg

/-! ## The shapes of statements about one instruction -/

/-- Executing `i` in `s` answers a next state with PC at `pc`, nothing changed but what `c` names, and `post` true of it.
In `s` PC is already past the instruction (10_state.md R14). -/
def Runs (i : Instr) (s : State) (pc : Word) (c : Changes) (post : State → Prop) : Prop :=
  ∃ t, exec i s = .next t ∧ t.pc = pc ∧ OnlyChanges c s t ∧ post t

/-- Executing `i` in `s` raises `f`: the next state is halted with `f` recorded. Nothing else is said of it, because no
claim may depend on the state after a fault (60_exceptions.md R300). -/
def Raises (i : Instr) (s : State) (f : Fault) : Prop := ∃ t, exec i s = .next t ∧ t.halted = some f

/-- P, Z and S hold what 10_state.md R18 gives for the result `r`. -/
structure PZSOf {w : Nat} (t : State) (r : BitVec w) : Prop where
  p : t.flag .p = true ↔ popcount (r.extractLsb' 0 8) % 2 = 0
  z : t.flag .z = true ↔ r = 0
  s : t.flag .s = true ↔ r.getLsbD (w - 1) = true

/-- CY and V hold what 41_arithmetic_logic.md R111 and R120 give for `a + b`: unsigned carry, and the exact signed sum
outside the signed range. -/
structure AddFlagsOf {w : Nat} (t : State) (a b : BitVec w) : Prop where
  cy : t.flag .cy = true ↔ 2 ^ w ≤ a.toNat + b.toNat
  v : t.flag .v = true ↔ a.toInt + b.toInt < -(2 ^ (w - 1)) ∨ 2 ^ (w - 1) ≤ a.toInt + b.toInt

/-- CY and V hold what 41_arithmetic_logic.md R114 and R120 give for `a - b`: unsigned borrow, and the exact signed
difference outside the signed range. -/
structure SubFlagsOf {w : Nat} (t : State) (a b : BitVec w) : Prop where
  cy : t.flag .cy = true ↔ a.toNat < b.toNat
  v : t.flag .v = true ↔ a.toInt - b.toInt < -(2 ^ (w - 1)) ∨ 2 ^ (w - 1) ≤ a.toInt - b.toInt

/-- The nine forms of 41_arithmetic_logic.md R110, each with its destination, its first value `a` and its second value `b`:
the constructors of one operation, and what is said of each form. -/
def NineForms (s : State) (rmReg8 : RM8 → Reg8 → Instr) (rmReg16 : RM16 → Reg16 → Instr) (regRm8 : Reg8 → RM8 → Instr)
    (regRm16 : Reg16 → RM16 → Instr) (al : Byte → Instr) (aw : Word → Instr) (rmImm8 : RM8 → Byte → Instr)
    (rmImm16 : RM16 → Word → Instr) (rmSimm8 : RM16 → Byte → Instr)
    (claim8 : Instr → Place Reg8 → Byte → Byte → Prop) (claim16 : Instr → Place Reg16 → Word → Word → Prop) : Prop :=
  (∀ rm reg, claim8 (rmReg8 rm reg) (resolve s rm) (s.read8 (resolve s rm)) (s.reg8 reg)) ∧
  (∀ rm reg, claim16 (rmReg16 rm reg) (resolve s rm) (s.read16 (resolve s rm)) (s.reg16 reg)) ∧
  (∀ reg rm, claim8 (regRm8 reg rm) (.reg reg) (s.reg8 reg) (s.read8 (resolve s rm))) ∧
  (∀ reg rm, claim16 (regRm16 reg rm) (.reg reg) (s.reg16 reg) (s.read16 (resolve s rm))) ∧
  (∀ imm, claim8 (al imm) (.reg .al) (s.reg8 .al) imm) ∧
  (∀ imm, claim16 (aw imm) (.reg .aw) s.aw imm) ∧
  (∀ rm imm, claim8 (rmImm8 rm imm) (resolve s rm) (s.read8 (resolve s rm)) imm) ∧
  (∀ rm imm, claim16 (rmImm16 rm imm) (resolve s rm) (s.read16 (resolve s rm)) imm) ∧
  (∀ rm imm, claim16 (rmSimm8 rm imm) (resolve s rm) (s.read16 (resolve s rm)) (imm.signExtend 16))

/-- What a byte operation with this destination may change. -/
def State.changes8 (s : State) (dst : Place Reg8) (flags : List Flag) : Changes :=
  { halves := placeRegs8 dst, cells := s.placeCells8 dst, flags := flags }

/-- What a word operation with this destination may change. -/
def State.changes16 (s : State) (dst : Place Reg16) (flags : List Flag) : Changes :=
  { regs := placeRegs16 dst, cells := s.placeCells16 dst, flags := flags }

/-- What a push may change: SP and the two bytes at SS and the new SP. -/
def State.pushChanges (s : State) : Changes :=
  { regs := [.sp], cells := [s.cellAt s.ss (s.sp - 2), s.cellAt s.ss (s.sp - 1)] }

/-- The six forms of 47_shift_rotate.md R250, each with its operand, the operand's value and the count: the constructors of
one operation, and what is said of each form. -/
def SixForms (s : State) (rm8Imm : RM8 → Byte → Instr) (rm16Imm : RM16 → Byte → Instr) (rm8One : RM8 → Instr)
    (rm16One : RM16 → Instr) (rm8Cl : RM8 → Instr) (rm16Cl : RM16 → Instr)
    (claim8 : Instr → Place Reg8 → Byte → Byte → Prop) (claim16 : Instr → Place Reg16 → Word → Byte → Prop) : Prop :=
  (∀ rm n, claim8 (rm8Imm rm n) (resolve s rm) (s.read8 (resolve s rm)) n) ∧
  (∀ rm n, claim16 (rm16Imm rm n) (resolve s rm) (s.read16 (resolve s rm)) n) ∧
  (∀ rm, claim8 (rm8One rm) (resolve s rm) (s.read8 (resolve s rm)) 1) ∧
  (∀ rm, claim16 (rm16One rm) (resolve s rm) (s.read16 (resolve s rm)) 1) ∧
  (∀ rm, claim8 (rm8Cl rm) (resolve s rm) (s.read8 (resolve s rm)) (s.reg8 .cl)) ∧
  (∀ rm, claim16 (rm16Cl rm) (resolve s rm) (s.read16 (resolve s rm)) (s.reg8 .cl))

/-- The bytes `n` repetitions of a block instruction of this width store to (44_block_and_rep.md R180, R186): at DS1 and IY
moved by the width 0 to `n - 1` times, through the bank select as it is. -/
def State.repCells (s : State) (width n : Nat) : List ByteCell :=
  (List.range n).flatMap fun k => (List.range width).map fun j =>
    s.cellAt s.ds1 (s.iy + BitVec.ofNat 16 k * delta s (BitVec.ofNat 16 width) + BitVec.ofNat 16 j)

/-- Every instruction with a word r/m operand, as a function of the operand. -/
def wordOperandForms (reg : Reg16) (seg : SReg) (imm : Word) (byte : Byte) : List (RM16 → Instr) :=
  [(.addRm16Reg16 · reg), (.addReg16Rm16 reg ·), (.orRm16Reg16 · reg), (.orReg16Rm16 reg ·), (.andRm16Reg16 · reg),
    (.andReg16Rm16 reg ·), (.subRm16Reg16 · reg), (.subReg16Rm16 reg ·), (.xorRm16Reg16 · reg), (.xorReg16Rm16 reg
    ·), (.cmpRm16Reg16 · reg), (.cmpReg16Rm16 reg ·), (.addRm16Imm16 · imm), (.orRm16Imm16 · imm), (.andRm16Imm16 ·
    imm), (.subRm16Imm16 · imm), (.xorRm16Imm16 · imm), (.cmpRm16Imm16 · imm), (.addRm16Simm8 · byte), (.orRm16Simm8
    · byte), (.andRm16Simm8 · byte), (.subRm16Simm8 · byte), (.xorRm16Simm8 · byte), (.cmpRm16Simm8 · byte),
    (.movRm16Reg16 · reg), (.movReg16Rm16 reg ·), (.movRm16Sreg · seg), .movDs1Rm16, (.movSsDs0Rm16 seg ·),
    (.rolRm16Imm8 · byte), (.rorRm16Imm8 · byte), (.rolcRm16Imm8 · byte), (.rorcRm16Imm8 · byte), (.shlRm16Imm8 ·
    byte), (.shrRm16Imm8 · byte), (.shraRm16Imm8 · byte), (.movRm16Imm16 · imm), .rolRm16One, .rorRm16One,
    .rolcRm16One, .rorcRm16One, .shlRm16One, .shrRm16One, .shraRm16One, .rolRm16Cl, .rorRm16Cl, .rolcRm16Cl,
    .rorcRm16Cl, .shlRm16Cl, .shrRm16Cl, .shraRm16Cl, .divuRm16, .divRm16]

/-- Every instruction with a byte r/m operand, as a function of the operand. -/
def byteOperandForms (reg : Reg8) (byte : Byte) : List (RM8 → Instr) :=
  [(.addRm8Reg8 · reg), (.addReg8Rm8 reg ·), (.orRm8Reg8 · reg), (.orReg8Rm8 reg ·), (.andRm8Reg8 · reg),
    (.andReg8Rm8 reg ·), (.subRm8Reg8 · reg), (.subReg8Rm8 reg ·), (.xorRm8Reg8 · reg), (.xorReg8Rm8 reg ·),
    (.cmpRm8Reg8 · reg), (.cmpReg8Rm8 reg ·), (.addRm8Imm8 · byte), (.orRm8Imm8 · byte), (.andRm8Imm8 · byte),
    (.subRm8Imm8 · byte), (.xorRm8Imm8 · byte), (.cmpRm8Imm8 · byte), (.movRm8Reg8 · reg), (.movReg8Rm8 reg ·),
    (.rolRm8Imm8 · byte), (.rorRm8Imm8 · byte), (.rolcRm8Imm8 · byte), (.rorcRm8Imm8 · byte), (.shlRm8Imm8 · byte),
    (.shrRm8Imm8 · byte), (.shraRm8Imm8 · byte), (.movRm8Imm8 · byte), .rolRm8One, .rorRm8One, .rolcRm8One,
    .rorcRm8One, .shlRm8One, .shrRm8One, .shraRm8One, .rolRm8Cl, .rorRm8Cl, .rolcRm8Cl, .rorcRm8Cl, .shlRm8Cl,
    .shrRm8Cl, .shraRm8Cl, .divuRm8, .divRm8]

/-- The first bytes that raise Unimplemented (30_encoding.md R80). -/
def unimplementedFirstBytes : List Nat :=
  [0x10, 0x11, 0x12, 0x13, 0x14, 0x15, 0x18, 0x19, 0x1A, 0x1B, 0x1C, 0x1D, 0x27, 0x2F, 0x37, 0x3F] ++
  [0x60, 0x61, 0x62, 0x63, 0x64, 0x65, 0x66, 0x67, 0x68, 0x69, 0x6A, 0x6B, 0x82, 0x84, 0x85, 0x86, 0x87, 0x8D, 0x8F] ++
  [0x90, 0x91, 0x92, 0x93, 0x94, 0x95, 0x96, 0x97, 0x98, 0x99, 0x9B, 0x9E, 0x9F, 0xA6, 0xA7, 0xA8, 0xA9, 0xAE, 0xAF] ++
  [0xC2, 0xC4, 0xC5, 0xC8, 0xC9, 0xCA, 0xCC, 0xCD, 0xCE, 0xCF, 0xD4, 0xD5, 0xD6, 0xD7] ++
  [0xD8, 0xD9, 0xDA, 0xDB, 0xDC, 0xDD, 0xDE, 0xDF, 0xE0, 0xE1, 0xE2, 0xE3, 0xF0, 0xF1, 0xF2, 0xF4, 0xF5] ++
  [0xF8, 0xF9, 0xFA, 0xFB, 0xFC, 0xFD, 0xFE, 0xFF]

/-- `n` rounds of "one transfer by `body`, then CW decremented" (44_block_and_rep.md R186). -/
inductive Transfers (body : Instr) : Nat → State → State → Prop where
  | done (s : State) : Transfers body 0 s s
  | round {n : Nat} {s u t : State} (one : exec body s = .next u)
      (rest : Transfers body n (u.setReg16 .cw (u.cw - 1)) t) : Transfers body (n + 1) s t

end Sys2Proof.Machine
end

