-- ==== Sys2Proof/Certificates/Slice0/Obligations.lean ====
section
/-! DEFINITION. The statements for the provers, each formalising what the spec says an instruction or the machine does. A
statement's docstring names the rules it follows and, in brackets, the spec's own decisions (92_eei_decisions.md) they rest
on. `Runs`, `Raises`, `OnlyChanges` and the rest of the vocabulary stand in Sys2Proof/Safety.lean. -/

open Sys2Proof Sys2Proof.Machine

/-- A sanity statement: words the spec writes out, read by the decoder (30_encoding.md section 6; the byte values
are the spec's own, D2). -/
def Obligations.KnownWordsDecode : Prop :=
  decode [0x01, 0x15, 0, 0, 0, 0] = .ok (.addRm16Reg16 (.mem .iy) .dw, [0, 0, 0, 0]) ∧
  decode [0x83, 0xC3, 0xFF, 0, 0, 0] = .ok (.addRm16Simm8 (.reg .bw) 0xFF, [0, 0, 0]) ∧
  decode [0xC7, 0x06, 0x00, 0x01, 0xEF, 0xBE] = .ok (.movRm16Imm16 (.direct 0x0100) 0xBEEF, []) ∧
  decode [0x8B, 0x46, 0x02, 0, 0, 0] = .ok (.movReg16Rm16 .aw (.mem8 .bp 2), [0, 0, 0]) ∧
  decode [0x53, 0, 0, 0, 0, 0] = .ok (.pushReg16 .bw, [0, 0, 0, 0, 0]) ∧
  decode [0xF3, 0xAA, 0, 0, 0, 0] = .ok (.repStmByte, [0, 0, 0, 0]) ∧
  decode [0xEA, 0x00, 0x01, 0x00, 0xF0, 0] = .ok (.brFar 0x0100 0xF000, [0]) ∧
  decode [0xC1, 0xE0, 0x04, 0, 0, 0] = .ok (.shlRm16Imm8 (.reg .aw) 4, [0, 0, 0]) ∧
  decode [0x0F, 0xE0, 0x10, 0, 0, 0] = .ok (.brkxa 0x10, [0, 0, 0])

/-- No bit of an encoding is dropped, with every operand at every value the encoding admits (30_encoding.md sections
1 to 9). -/
def Obligations.EncodedInstructionsDecode : Prop :=
  ∀ (i : Instr) (rest : List Byte), WellFormed i = true → decode (encode i ++ rest) = .ok (i, rest)

/-- Each word has one meaning, reserved encodings included (30_encoding.md sections 7 and 9). -/
def Obligations.DecodedBytesEncode : Prop :=
  ∀ (bytes rest : List Byte) (i : Instr), decode bytes = .ok (i, rest) →
    WellFormed i = true ∧ encode i ++ rest = bytes

/-- The dispatch is total (30_encoding.md sections 7 and 9): the decoder's one refusal, a truncated list, never
happens to the six bytes a step looks at. -/
def Obligations.DecoderIsTotal : Prop :=
  ∀ bytes : List Byte, 6 ≤ bytes.length → ∃ i rest, decode bytes = .ok (i, rest)

/-- The values of 10_state.md R31 for an empty image, and the first fetch of 70_reset_and_hazards.md R332. Some of
the values are the spec's own decisions (D18, D33). -/
def Obligations.ResetState : Prop :=
  (∀ r, State.reset.reg16 r = 0) ∧ (∀ r, State.reset.reg8 r = 0) ∧ State.reset.pc = 0 ∧ State.reset.psw = 0xF004 ∧
  State.reset.ps = 0xFFFF ∧ State.reset.ss = 0 ∧ State.reset.ds0 = 0 ∧ State.reset.ds1 = 0 ∧
  (∀ x, State.reset.cell x = 0) ∧ (∀ p, State.reset.portRead8 p = 0) ∧ (∀ a, Mem.read State.reset.internal a = 0) ∧
  State.reset.xa = false ∧ State.reset.segOverride = none ∧ State.reset.lastOpcode = 0 ∧ State.reset.clock = 0 ∧
  State.reset.trace = [] ∧ State.reset.halted = none ∧ phys State.reset.ps State.reset.pc = 0xFFFF0

/-- The invariant of `StepKeepsWellFormed` holds at reset. -/
def Obligations.ResetIsWellFormed : Prop :=
  State.reset.wf = true

/-- 60_exceptions.md R306. "No core state exists afterwards": the outcome is the fault alone. -/
def Obligations.OversizedImageIsRefused : Prop :=
  ∀ (cfg : Config) (image : List Byte),
    (0x100000 < image.length → construct cfg image = .fault (.imageTooLarge image.length)) ∧
    (image.length ≤ 0x100000 → ∃ s, construct cfg image = .next s)

/-- 70_reset_and_hazards.md R330, 10_state.md R31 (D18, D33). -/
def Obligations.ConstructionLoadsTheImage : Prop :=
  ∀ (cfg : Config) (image : List Byte), image.length ≤ 0x100000 → cfg.wf = true →
    ∃ s, construct cfg image = .next s ∧ s.wf = true ∧ s.cfg = cfg ∧
      (∀ a, s.cell (.conventional, a) = image.getD a 0) ∧ (∀ a, s.cell (.extended, a) = 0) ∧
      (∀ r, s.reg16 r = 0) ∧ s.pc = 0 ∧ s.psw = 0xF004 ∧ s.ps = 0xFFFF ∧ s.ss = 0 ∧ s.ds0 = 0 ∧ s.ds1 = 0 ∧
      (∀ p, s.portRead8 p = 0) ∧ s.xa = false ∧ s.internal = [] ∧ s.segOverride = none ∧ s.lastOpcode = 0 ∧
      s.clock = 0 ∧ s.trace = [] ∧ s.halted = none

/-- 40_step_and_prefixes.md R100: what a step adds around `exec`. That no instruction answers anything but a next
state is `EveryInstructionAnswersANextState`. -/
def Obligations.StepRunsTheDecodedInstruction : Prop :=
  ∀ (s t : State) (i : Instr) (rest : List Byte), s.halted = none → decode s.codeBytes = .ok (i, rest) →
    exec i (s.fetched (6 - rest.length)) = .next t →
    (s.fetched (6 - rest.length)).pc = s.pc + BitVec.ofNat 16 (6 - rest.length) ∧
    (s.fetched (6 - rest.length)).lastOpcode = s.codeByte 0 ∧
    (∀ f, t.halted = some f → step s = .next t) ∧
    (t.halted = none → step s = .next { t with
      clock := t.clock + cycles i (s.fetched (6 - rest.length)),
      segOverride := if s.codeByte 0 ∈ [0x26, 0x2E, 0x36, 0x3E] then t.segOverride else none })

/-- 40_step_and_prefixes.md R100 with the fetch of 20_memory.md R46: the length of an instruction is the number of
bytes its rule fetches (30_encoding.md R70). -/
def Obligations.StepRunsTheEncodedInstruction : Prop :=
  ∀ (s : State) (i : Instr), s.halted = none → WellFormed i = true →
    (∀ k (h : k < (encode i).length), s.codeByte (BitVec.ofNat 16 k) = (encode i)[k]) →
    step s = finishStep (s.codeByte 0) (cycles i (s.fetched (encode i).length))
      (exec i (s.fetched (encode i).length))

/-- The completion of every constructor in every state. That a raise is a next state with `halted` set is the
model's reading of 60_exceptions.md R300 (notes/assumptions/1.md). -/
def Obligations.EveryInstructionAnswersANextState : Prop :=
  ∀ (i : Instr) (s : State), ∃ t, exec i s = .next t

/-- 10_state.md R30 and 60_exceptions.md R300. That the step of a halted core answers the recorded fault is the
model's form (notes/assumptions/1.md); that a run ends at a step budget is its choice under R321
(notes/assumptions/19.md). -/
def Obligations.HaltedCoreTakesNoStep : Prop :=
  (∀ (s : State) (f : Fault), ∃ t, s.raise f = .next t ∧ t.halted = some f) ∧
  (∀ (s : State) (f : Fault), s.halted = some f → step s = .fault f ∧ ∀ n, run n s = s) ∧
  (∀ (n : Nat) (s t : State), Completes n s t → ∀ k, k ≤ n → (run k s).halted = none) ∧ State.reset.halted = none

/-- 40_step_and_prefixes.md R100, R105 and R106. -/
def Obligations.OverrideLatchLifetime : Prop :=
  (∀ (i : Instr) (s t : State), i ∉ [.prefixDs1, .prefixPs, .prefixSs, .prefixDs0] → exec i s = .next t →
    t.segOverride = s.segOverride) ∧
  (∀ (s t : State) (i : Instr) (rest : List Byte), decode s.codeBytes = .ok (i, rest) → step s = .next t →
    t.halted = none →
    (i = .prefixDs1 → t.segOverride = some .ds1) ∧ (i = .prefixPs → t.segOverride = some .ps) ∧
    (i = .prefixSs → t.segOverride = some .ss) ∧ (i = .prefixDs0 → t.segOverride = some .ds0) ∧
    (i ∉ [.prefixDs1, .prefixPs, .prefixSs, .prefixDs0] → t.segOverride = none))

/-- 70_reset_and_hazards.md R345 (a) (D19). The cost itself is a free value (notes/assumptions/3.md): this holds for
every value of it. -/
def Obligations.ClockAdvancesOnCompletedSteps : Prop :=
  (∀ (i : Instr) (s t : State), exec i s = .next t → t.halted = none → t.clock = s.clock) ∧
  (∀ s t : State, step s = .next t → t.halted = none → s.clock < t.clock)

/-- 70_reset_and_hazards.md R345 (a) (D19), (b), (c) (90_conflicts.md C3), 20_memory.md R45, 42_data_movement.md
R149. That every class of word operands in memory distinguishes alignment, block and stack operands included, is
the model's choice: R345 (b) says "every instruction class that distinguishes alignment" and does not list them
(notes/assumptions/3.md). That the 0F sub-opcode and the REP follower are part of the entry is the choice of
notes/assumptions/4.md. The costs are free values: this holds for every value of them. -/
def Obligations.OddWordOperandCostsMore : Prop :=
  (∀ (i : Instr) (s : State), 1 ≤ cycles i s) ∧
  (∀ (i j : Instr) (s t : State), cycleKey i = cycleKey j → repetitions i s = repetitions j t →
    ((wordAddresses i s).map (· % 2) = (wordAddresses j t).map (· % 2) → cycles i s = cycles j t) ∧
    ∀ (before before' after after' : List Nat) (a a' : Nat), wordAddresses i s = before ++ a :: after →
      wordAddresses j t = before' ++ a' :: after' → before.map (· % 2) = before'.map (· % 2) →
      after.map (· % 2) = after'.map (· % 2) → a % 2 = 0 → a' % 2 = 1 → cycles i s < cycles j t) ∧
  (∀ (reg : Reg16) (src : SReg) (imm : Word) (byte : Byte), ∀ f ∈ wordOperandForms reg src imm byte,
    (∀ (s : State) (r : Reg16), wordAddresses (f (.reg r)) s = []) ∧
    (∀ (s : State) (rm : RM16) (seg off : Word), resolve s rm = .mem seg off →
      wordAddresses (f rm) s = [phys seg off]) ∧
    (∀ a a' : Word, cycleKey (f (.direct a)) = cycleKey (f (.direct a'))) ∧
    (∀ (b : Base) (d d' : Byte), cycleKey (f (.mem8 b d)) = cycleKey (f (.mem8 b d'))) ∧
    (∀ (b : Base) (d d' : Word), cycleKey (f (.mem16 b d)) = cycleKey (f (.mem16 b d')))) ∧
  (∀ (s : State) (a a' : Word),
    wordAddresses (.movAwDirect a) s = [phys s.dataSeg a] ∧ wordAddresses (.movDirectAw a) s = [phys s.dataSeg a] ∧
    wordAddresses (.movAlDirect a) s = [] ∧ wordAddresses (.movDirectAl a) s = [] ∧
    cycleKey (.movAwDirect a) = cycleKey (.movAwDirect a') ∧ cycleKey (.movDirectAw a) = cycleKey (.movDirectAw a') ∧
    cycleKey (.movAlDirect a) = cycleKey (.movAlDirect a') ∧ cycleKey (.movDirectAl a) = cycleKey (.movDirectAl a')) ∧
  (∀ (reg : Reg8) (byte : Byte), ∀ f ∈ byteOperandForms reg byte, ∀ (s : State) (rm : RM8),
    wordAddresses (f rm) s = []) ∧
  (∀ s : State,
    let source := phys s.dataSeg s.ix
    let destination := phys s.ds1 s.iy
    wordAddresses .movbkWord s = [source, destination] ∧
    (∀ i ∈ [Instr.ldmWord, .outmWord], wordAddresses i s = [source]) ∧
    (∀ i ∈ [Instr.stmWord, .inmWord], wordAddresses i s = [destination]) ∧
    (s.cw ≠ 0 → wordAddresses .repMovbkWord s = [source, destination] ∧
      (∀ i ∈ [Instr.repLdmWord, .repOutmWord], wordAddresses i s = [source]) ∧
      ∀ i ∈ [Instr.repStmWord, .repInmWord], wordAddresses i s = [destination]) ∧
    (s.cw = 0 → ∀ i ∈ [Instr.repMovbkWord, .repLdmWord, .repOutmWord, .repStmWord, .repInmWord],
      wordAddresses i s = []) ∧
    (∀ i ∈ [Instr.movbkByte, .ldmByte, .outmByte, .stmByte, .inmByte, .repMovbkByte, .repLdmByte, .repOutmByte,
      .repStmByte, .repInmByte], wordAddresses i s = []) ∧
    (∀ i ∈ [Instr.pushDs1, .pushPs, .pushSs, .pushDs0, .pushPsw], wordAddresses i s = [phys s.ss (s.sp - 2)]) ∧
    (∀ i ∈ [Instr.popDs1, .popSs, .popDs0, .popPsw, .retNear], wordAddresses i s = [phys s.ss s.sp]) ∧
    (∀ r : Reg16, wordAddresses (.pushReg16 r) s = [phys s.ss (s.sp - 2)] ∧
      wordAddresses (.popReg16 r) s = [phys s.ss s.sp]) ∧
    (∀ d : Word, wordAddresses (.callNear d) s = [phys s.ss (s.sp - 2)]) ∧
    (∀ off seg : Word, wordAddresses (.callFar off seg) s = [phys s.ss (s.sp - 2), phys s.ss (s.sp - 4)]) ∧
    wordAddresses .retFar s = [phys s.ss s.sp, phys s.ss (s.sp + 2)]) ∧
  (∀ (s : State) (v w x : Word), phys s.dataSeg s.iy % 2 = 0 →
    let five := cycles (.movReg16Imm16 .dw v) s + cycles (.movReg16Imm16 .aw w) s + cycles (.movDs1Rm16 (.reg .aw)) s
      +
      cycles (.movReg16Imm16 .iy x) s + cycles .prefixDs1 s
    five = 23 ∨ five + cycles (.addRm16Reg16 (.mem .iy) .dw) s = 23)

/-- The invariant of the model: no access goes outside an array (10_state.md R22 to R25, 20_memory.md R41), and
equal memories are equal data. -/
def Obligations.StepKeepsWellFormed : Prop :=
  ∀ s t : State, s.wf = true → step s = .next t → t.wf = true

/-- 60_exceptions.md R305. -/
def Obligations.InvariantViolationIsUnreachable : Prop :=
  ∀ s : State, s.halted ≠ some .invariantViolation →
    step s ≠ .fault .invariantViolation ∧ ∀ t, step s = .next t → t.halted ≠ some .invariantViolation

/-- 10_state.md R25 (D20) and R27 (D23). That the open parameters are fields of the state which no step changes is
the model's choice (notes/assumptions/2.md). -/
def Obligations.StepLeavesInternalAndParameters : Prop :=
  ∀ s t : State, step s = .next t → t.halted = none →
    t.internal = s.internal ∧ t.cfg = s.cfg ∧ t.lastOpcode = s.codeByte 0

/-- 10_state.md R21: "the only way a program changes AC, BRK, IE, DIR or an undefined bit is POP PSW". The bit
numbers are the spec's (D3). -/
def Obligations.OnlyPopPswChangesControlBits : Prop :=
  ∀ (s t : State) (i : Instr) (rest : List Byte), decode s.codeBytes = .ok (i, rest) → i ≠ .popPsw →
    step s = .next t → t.halted = none →
    ∀ k ∈ [1, 3, 4, 5, 8, 9, 10, 12, 13, 14, 15], t.psw.getLsbD k = s.psw.getLsbD k

/-- 10_state.md R17: what else writes PS, MOV and POP to PS having no encoding (42 R143, 43 R163). -/
def Obligations.OnlyFarTransfersChangePs : Prop :=
  ∀ (s t : State) (i : Instr) (rest : List Byte), decode s.codeBytes = .ok (i, rest) → step s = .next t →
    t.halted = none → t.ps ≠ s.ps →
    (∃ off seg, i = .brFar off seg) ∨ (∃ off seg, i = .callFar off seg) ∨ i = .retFar ∨ (∃ n, i = .brkxa n) ∨
      ∃ n, i = .retxa n

/-- 10_state.md R29 "append-only", 20_memory.md R50 (D24). -/
def Obligations.OnlyOutputsExtendTheTrace : Prop :=
  ∀ (s t : State) (i : Instr) (rest : List Byte), decode s.codeBytes = .ok (i, rest) → step s = .next t →
    t.halted = none → ∃ out, t.trace = s.trace ++ out ∧
      (out ≠ [] → (∃ p, i = .outImm8Al p) ∨ (∃ p, i = .outImm8Aw p) ∨
        i ∈ [.outDwAl, .outDwAw, .outmByte, .outmWord, .repOutmByte, .repOutmWord])

/-- 10_state.md R24: what reaches port space (R50, R271). -/
def Obligations.OnlyOutputsAndBankSwitchesChangePorts : Prop :=
  ∀ (s t : State) (i : Instr) (rest : List Byte), decode s.codeBytes = .ok (i, rest) → step s = .next t →
    t.halted = none → ∀ p, t.portRead8 p ≠ s.portRead8 p →
      (p = s.cfg.xaPort ∧ ((∃ n, i = .brkxa n) ∨ ∃ n, i = .retxa n)) ∨
      (((∃ n, i = .outImm8Al n) ∨ (∃ n, i = .outImm8Aw n) ∨
          i ∈ [.outDwAl, .outDwAw, .outmByte, .outmWord, .repOutmByte, .repOutmWord]) ∧
        ∃ out v, t.trace = s.trace ++ out ∧ (p, v) ∈ out)

/-- 10_state.md R25 (D20), R27, R28, R29: no rule reads them. -/
def Obligations.UnreadStateDoesNotMatter : Prop :=
  ∀ (s t : State) (array : Mem) (last : Byte) (ticks : Nat) (old : List (Word × Byte)), step s = .next t →
    t.halted = none →
      step { s with internal := array, lastOpcode := last, clock := ticks + s.clock, trace := old ++ s.trace } =
      .next { t with internal := array, clock := ticks + t.clock, trace := old ++ t.trace }

/-- 10_state.md R32. -/
def Obligations.RegistersRoundTrip : Prop :=
  ∀ s : State,
    (∀ (r : Reg16) (v : Word), (s.setReg16 r v).reg16 r = v) ∧ (∀ (r : SReg) (v : Word), (s.setSReg r v).sreg r = v) ∧
    (∀ v : Word, (s.setPc v).pc = v) ∧ (∀ v : Word, (s.setPsw v).psw = v) ∧
    (∀ (h : Reg8) (v : Byte), (s.setReg8 h v).reg8 h = v) ∧
    (∀ (h k : Reg8) (v : Byte), k ≠ h → (s.setReg8 h v).reg8 k = s.reg8 k)

/-- 10_state.md R11. -/
def Obligations.ByteViewsAreBitsOfTheWord : Prop :=
  ∀ s : State,
    (∀ v : Word, (s.setReg16 .aw v).reg8 .al = v.extractLsb' 0 8 ∧ (s.setReg16 .aw v).reg8 .ah = v.extractLsb' 8 8 ∧
      (s.setReg16 .bw v).reg8 .bl = v.extractLsb' 0 8 ∧ (s.setReg16 .bw v).reg8 .bh = v.extractLsb' 8 8 ∧
      (s.setReg16 .cw v).reg8 .cl = v.extractLsb' 0 8 ∧ (s.setReg16 .cw v).reg8 .ch = v.extractLsb' 8 8 ∧
      (s.setReg16 .dw v).reg8 .dl = v.extractLsb' 0 8 ∧ (s.setReg16 .dw v).reg8 .dh = v.extractLsb' 8 8) ∧
    (s.aw = s.reg8 .ah ++ s.reg8 .al ∧ s.bw = s.reg8 .bh ++ s.reg8 .bl ∧ s.cw = s.reg8 .ch ++ s.reg8 .cl ∧
      s.dw = s.reg8 .dh ++ s.reg8 .dl) ∧
    (∀ v : Byte, s.setReg8 .al v = s.setReg16 .aw ((s.aw &&& 0xFF00) ||| v.setWidth 16) ∧
      s.setReg8 .ah v = s.setReg16 .aw ((s.aw &&& 0x00FF) ||| (v.setWidth 16 <<< 8)) ∧
      s.setReg8 .bl v = s.setReg16 .bw ((s.bw &&& 0xFF00) ||| v.setWidth 16) ∧
      s.setReg8 .bh v = s.setReg16 .bw ((s.bw &&& 0x00FF) ||| (v.setWidth 16 <<< 8)) ∧
      s.setReg8 .cl v = s.setReg16 .cw ((s.cw &&& 0xFF00) ||| v.setWidth 16) ∧
      s.setReg8 .ch v = s.setReg16 .cw ((s.cw &&& 0x00FF) ||| (v.setWidth 16 <<< 8)) ∧
      s.setReg8 .dl v = s.setReg16 .dw ((s.dw &&& 0xFF00) ||| v.setWidth 16) ∧
      s.setReg8 .dh v = s.setReg16 .dw ((s.dw &&& 0x00FF) ||| (v.setWidth 16 <<< 8))) ∧
    (∀ (r : Reg16) (v : Word), r ∈ [.sp, .bp, .ix, .iy] → ∀ h, (s.setReg16 r v).reg8 h = s.reg8 h) ∧
    (∀ (v : Word) (r : SReg) (h : Reg8), (s.setPc v).reg8 h = s.reg8 h ∧ (s.setPsw v).reg8 h = s.reg8 h ∧
      (s.setSReg r v).reg8 h = s.reg8 h)

/-- 10_state.md R18. -/
def Obligations.SetPZSWritesThreeFlags : Prop :=
  (∀ (psw : Word) (r : Byte),
    getFlag (setPZS psw r) .p = decide (popcount r % 2 = 0) ∧ getFlag (setPZS psw r) .z = decide (r = 0) ∧
    getFlag (setPZS psw r) .s = r.getLsbD 7 ∧
    ∀ k, k ∉ [Flag.p.bit, Flag.z.bit, Flag.s.bit] → (setPZS psw r).getLsbD k = psw.getLsbD k) ∧
  (∀ psw r : Word,
    getFlag (setPZS psw r) .p = decide (popcount (r.extractLsb' 0 8) % 2 = 0) ∧
    getFlag (setPZS psw r) .z = decide (r = 0) ∧ getFlag (setPZS psw r) .s = r.getLsbD 15 ∧
    ∀ k, k ∉ [Flag.p.bit, Flag.z.bit, Flag.s.bit] → (setPZS psw r).getLsbD k = psw.getLsbD k)

/-- 10_state.md R19. -/
def Obligations.SetPZSCYVWritesFiveFlags : Prop :=
  (∀ (psw : Word) (r : Byte) (cy v : Bool),
    getFlag (setPZSCYV psw r cy v) .cy = cy ∧ getFlag (setPZSCYV psw r cy v) .v = v ∧
    (∀ f ∈ [Flag.p, .z, .s], getFlag (setPZSCYV psw r cy v) f = getFlag (setPZS psw r) f) ∧
    ∀ k, (∀ f ∈ [Flag.p, .z, .s, .cy, .v], f.bit ≠ k) → (setPZSCYV psw r cy v).getLsbD k = psw.getLsbD k) ∧
  (∀ (psw r : Word) (cy v : Bool),
    getFlag (setPZSCYV psw r cy v) .cy = cy ∧ getFlag (setPZSCYV psw r cy v) .v = v ∧
    (∀ f ∈ [Flag.p, .z, .s], getFlag (setPZSCYV psw r cy v) f = getFlag (setPZS psw r) f) ∧
    ∀ k, (∀ f ∈ [Flag.p, .z, .s, .cy, .v], f.bit ≠ k) → (setPZSCYV psw r cy v).getLsbD k = psw.getLsbD k)

/-- 20_memory.md R41. A read answers a byte and a write a state: there is no outcome by which an access could raise. -/
def Obligations.SegmentTranslation : Prop :=
  (∀ seg off : Word, phys seg off = (seg.toNat * 16 + off.toNat) % 0x100000 ∧ phys seg off < 0x100000) ∧
  phys 0xFFFF 0x0010 = 0x00000 ∧
  (∀ (s : State) (seg off : Word) (v : Byte), s.memRead8 seg off = s.physRead (phys seg off) ∧
    s.memWrite8 seg off v = s.physWrite (phys seg off) v) ∧
  (∀ (s : State) (k : Nat), s.codeByte (BitVec.ofNat 16 k) =
    s.physRead ((s.ps.toNat * 16 + (s.pc.toNat + k) % 0x10000) % 0x100000))

/-- 20_memory.md R42 (D7) and 10_state.md R24. -/
def Obligations.BankSelect : Prop :=
  ∀ (s : State) (a : Nat),
    (s.xa = true ↔ s.portRead8 s.cfg.xaPort &&& s.cfg.xaMask ≠ 0) ∧
    s.physRead a = (if s.xa = true ∧ a < 0xA0000 then s.cell (.extended, a) else s.cell (.conventional, a)) ∧
    ∀ v : Byte, s.wf = true →
      (s.physWrite a v).cell (if s.xa = true ∧ a < 0xA0000 then .extended else .conventional, a) = v ∧
      (s.physWrite a v).pc = s.pc ∧ (s.physWrite a v).psw = s.psw ∧
      OnlyChanges { cells := [(if s.xa = true ∧
        a < 0xA0000 then .extended else .conventional, a)] } s (s.physWrite a v)

/-- 20_memory.md R40 and R43 (D6, D21). -/
def Obligations.WordAccessIsLittleEndian : Prop :=
  ∀ (s : State) (seg off v : Word),
    s.memRead16 seg off = s.memRead8 seg (off + 1) ++ s.memRead8 seg off ∧
    (s.wf = true →
      (s.memWrite16 seg off v).memRead8 seg off = v.extractLsb' 0 8 ∧
      (s.memWrite16 seg off v).memRead8 seg (off + 1) = v.extractLsb' 8 8 ∧
      (s.memWrite16 seg off v).memRead16 seg off = v ∧
      OnlyChanges { cells := [s.cellAt seg off, s.cellAt seg (off + 1)] } s (s.memWrite16 seg off v))

/-- 20_memory.md R47. -/
def Obligations.PushStoresBelowTheStackPointer : Prop :=
  ∀ (s : State) (v : Word),
    (s.sp.toNat < 2 → s.push16 v = .error (.stackOverflow s.sp)) ∧
    (2 ≤ s.sp.toNat → ∃ t, s.push16 v = .ok t ∧ t.sp = s.sp - 2 ∧ t.pc = s.pc ∧
      OnlyChanges { regs := [.sp], cells := [s.cellAt s.ss (s.sp - 2), s.cellAt s.ss (s.sp - 2 + 1)] } s t ∧
      (s.wf = true → t.memRead8 s.ss (s.sp - 2) = v.extractLsb' 0 8 ∧
        t.memRead8 s.ss (s.sp - 2 + 1) = v.extractLsb' 8 8)) ∧
    (∀ o : Option SReg, (s.setSegOverride o).push16 v = (s.push16 v).map fun t => t.setSegOverride o)

/-- 20_memory.md R49 and R50 (D10). -/
def Obligations.OutputWritesThePortThenTheTrace : Prop :=
  ∀ s : State, s.wf = true →
    (∀ (p : Word) (v : Byte), (s.output8 p v).portRead8 p = v ∧ (s.output8 p v).pc = s.pc ∧
      OnlyChanges { ports := [p], output := [(p, v)] } s (s.output8 p v)) ∧
    (∀ p v : Word, (s.output16 p v).portRead8 p = v.extractLsb' 0 8 ∧
      (s.output16 p v).portRead8 (p + 1) = v.extractLsb' 8 8 ∧ (s.output16 p v).portRead16 p = v ∧
      (s.output16 p v).pc = s.pc ∧ OnlyChanges
        { ports := [p, p + 1], output := [(p, v.extractLsb' 0 8), (p + 1, v.extractLsb' 8 8)] } s
        (s.output16 p v)) ∧
    (∀ p : Word, s.portRead16 p = s.portRead8 (p + 1) ++ s.portRead8 p)

/-- 20_memory.md R58 [derived by the spec]. -/
def Obligations.OutputToXaPortSwitchesTheBank : Prop :=
  ∀ s : State, s.wf = true →
    (∀ v : Byte, ((s.output8 s.cfg.xaPort v).xa = true ↔ v &&& s.cfg.xaMask ≠ 0)) ∧
    (∀ (p : Word) (v : Byte), p ≠ s.cfg.xaPort → (s.output8 p v).xa = s.xa) ∧
    (∀ p v : Word, p = s.cfg.xaPort →
      ((s.output16 p v).xa = true ↔ v.extractLsb' 0 8 &&& s.cfg.xaMask ≠ 0)) ∧
    (∀ p v : Word, p + 1 = s.cfg.xaPort →
      ((s.output16 p v).xa = true ↔ v.extractLsb' 8 8 &&& s.cfg.xaMask ≠ 0)) ∧
    (∀ p v : Word, p ≠ s.cfg.xaPort → p + 1 ≠ s.cfg.xaPort → (s.output16 p v).xa = s.xa)

/-- 30_encoding.md R72 to R74 (D29, D37). The byte operands use the same base sums as the word operands. -/
def Obligations.ResolverOffsets : Prop :=
  ∀ s : State,
    (∀ r : Reg16, resolve s (.reg r : RM16) = .reg r) ∧ (∀ r : Reg8, resolve s (.reg r : RM8) = .reg r) ∧
    (∀ a : Word, resolve s (.direct a : RM16) = .mem s.dataSeg a) ∧
    (∀ (b : Base) (base : Nat),
      (b = .bwIx → base = s.bw.toNat + s.ix.toNat) → (b = .bwIy → base = s.bw.toNat + s.iy.toNat) →
      (b = .bpIx → base = s.bp.toNat + s.ix.toNat) → (b = .bpIy → base = s.bp.toNat + s.iy.toNat) →
      (b = .ix → base = s.ix.toNat) → (b = .iy → base = s.iy.toNat) → (b = .bp → base = s.bp.toNat) →
      (b = .bw → base = s.bw.toNat) →
      (resolve s (.mem b : RM16) = .mem s.dataSeg (BitVec.ofNat 16 (base % 0x10000))) ∧
      (∀ d : Byte, resolve s (.mem8 b d : RM16) = .mem s.dataSeg (BitVec.ofInt 16 ((base + d.toInt) % 0x10000))) ∧
      (∀ d : Word, resolve s (.mem16 b d : RM16) = .mem s.dataSeg (BitVec.ofNat 16 ((base + d.toNat) % 0x10000)))) ∧
    (∀ b : Base, resolve s (.mem b : RM8) = .mem s.dataSeg (s.baseSum b)) ∧
    (∀ a : Word, resolve s (.direct a : RM8) = .mem s.dataSeg a) ∧
    (∀ (b : Base) (d : Byte), resolve s (.mem8 b d : RM8) = .mem s.dataSeg (s.baseSum b + d.signExtend 16)) ∧
    (∀ (b : Base) (d : Word), resolve s (.mem16 b d : RM8) = .mem s.dataSeg (s.baseSum b + d))

/-- 20_memory.md R44 (D32). -/
def Obligations.DataSegmentFollowsTheLatch : Prop :=
  ∀ s : State,
    (s.segOverride = none → s.dataSeg = s.ds0) ∧ (s.segOverride = some .ds0 → s.dataSeg = s.ds0) ∧
    (s.segOverride = some .ds1 → s.dataSeg = s.ds1) ∧ (s.segOverride = some .ps → s.dataSeg = s.ps) ∧
    (s.segOverride = some .ss → s.dataSeg = s.ss) ∧
    (∀ rm : RM16, (∃ r, rm = .reg r) ∨ ∃ off, resolve s rm = .mem s.dataSeg off) ∧
    (∀ rm : RM8, (∃ r, rm = .reg r) ∨ ∃ off, resolve s rm = .mem s.dataSeg off) ∧
    (∀ o, (s.setSegOverride o).pop16 = (s.pop16.1, s.pop16.2.setSegOverride o) ∧
      (s.setSegOverride o).codeBytes = s.codeBytes) ∧
    (∀ o (v : Word), (s.setSegOverride o).push16 v = (s.push16 v).map fun t => t.setSegOverride o)

/-- 41_arithmetic_logic.md R110, R111, R120. AC is unchanged (D4). -/
def Obligations.AddStoresTheSum : Prop :=
  ∀ s : State, s.wf = true →
    NineForms s .addRm8Reg8 .addRm16Reg16 .addReg8Rm8 .addReg16Rm16 .addAlImm8
      .addAwImm16 .addRm8Imm8 .addRm16Imm16 .addRm16Simm8
      (fun i dst a b => Runs i s s.pc (s.changes8 dst [.cy, .p, .z, .s, .v]) fun t =>
        t.read8 dst = a + b ∧ AddFlagsOf t a b ∧ PZSOf t (a + b))
      (fun i dst a b => Runs i s s.pc (s.changes16 dst [.cy, .p, .z, .s, .v]) fun t =>
        t.read16 dst = a + b ∧ AddFlagsOf t a b ∧ PZSOf t (a + b))

/-- 41_arithmetic_logic.md R110, R114, R120. AC is unchanged (D4). -/
def Obligations.SubStoresTheDifference : Prop :=
  ∀ s : State, s.wf = true →
    NineForms s .subRm8Reg8 .subRm16Reg16 .subReg8Rm8 .subReg16Rm16 .subAlImm8
      .subAwImm16 .subRm8Imm8 .subRm16Imm16 .subRm16Simm8
      (fun i dst a b => Runs i s s.pc (s.changes8 dst [.cy, .p, .z, .s, .v]) fun t =>
        t.read8 dst = a - b ∧ SubFlagsOf t a b ∧ PZSOf t (a - b))
      (fun i dst a b => Runs i s s.pc (s.changes16 dst [.cy, .p, .z, .s, .v]) fun t =>
        t.read16 dst = a - b ∧ SubFlagsOf t a b ∧ PZSOf t (a - b))

/-- 41_arithmetic_logic.md R116. -/
def Obligations.CmpSetsFlagsOnly : Prop :=
  ∀ s : State,
    NineForms s .cmpRm8Reg8 .cmpRm16Reg16 .cmpReg8Rm8 .cmpReg16Rm16 .cmpAlImm8
      .cmpAwImm16 .cmpRm8Imm8 .cmpRm16Imm16 .cmpRm16Simm8
      (fun i _ a b => Runs i s s.pc { flags := [.cy, .p, .z, .s, .v] } fun t =>
        SubFlagsOf t a b ∧ PZSOf t (a - b) ∧ (t.flag .z = true ↔ a = b))
      (fun i _ a b => Runs i s s.pc { flags := [.cy, .p, .z, .s, .v] } fun t =>
        SubFlagsOf t a b ∧ PZSOf t (a - b) ∧ (t.flag .z = true ↔ a = b))

/-- 41_arithmetic_logic.md R112, R113, R115: CY and V are left (D5). -/
def Obligations.LogicStoresTheBitwiseResult : Prop :=
  ∀ s : State, s.wf = true →
    (NineForms s .orRm8Reg8 .orRm16Reg16 .orReg8Rm8 .orReg16Rm16 .orAlImm8
      .orAwImm16 .orRm8Imm8 .orRm16Imm16 .orRm16Simm8
      (fun i dst a b => Runs i s s.pc (s.changes8 dst [.p, .z, .s]) fun t =>
        t.read8 dst = a ||| b ∧ PZSOf t (a ||| b))
      (fun i dst a b => Runs i s s.pc (s.changes16 dst [.p, .z, .s]) fun t =>
        t.read16 dst = a ||| b ∧ PZSOf t (a ||| b))) ∧
    (NineForms s .andRm8Reg8 .andRm16Reg16 .andReg8Rm8 .andReg16Rm16 .andAlImm8
      .andAwImm16 .andRm8Imm8 .andRm16Imm16 .andRm16Simm8
      (fun i dst a b => Runs i s s.pc (s.changes8 dst [.p, .z, .s]) fun t =>
        t.read8 dst = a &&& b ∧ PZSOf t (a &&& b))
      (fun i dst a b => Runs i s s.pc (s.changes16 dst [.p, .z, .s]) fun t =>
        t.read16 dst = a &&& b ∧ PZSOf t (a &&& b))) ∧
    (NineForms s .xorRm8Reg8 .xorRm16Reg16 .xorReg8Rm8 .xorReg16Rm16 .xorAlImm8
      .xorAwImm16 .xorRm8Imm8 .xorRm16Imm16 .xorRm16Simm8
      (fun i dst a b => Runs i s s.pc (s.changes8 dst [.p, .z, .s]) fun t =>
        t.read8 dst = a ^^^ b ∧ PZSOf t (a ^^^ b))
      (fun i dst a b => Runs i s s.pc (s.changes16 dst [.p, .z, .s]) fun t =>
        t.read16 dst = a ^^^ b ∧ PZSOf t (a ^^^ b)))

/-- 41_arithmetic_logic.md R118, R119: INC and DEC write CY (D31). -/
def Obligations.IncAndDecWriteCarry : Prop :=
  ∀ (s : State) (r : Reg16),
    (Runs (.incReg16 r) s s.pc { regs := [r], flags := [.cy, .p, .z, .s, .v] } fun t =>
      (t.reg16 r).toNat = ((s.reg16 r).toNat + 1) % 0x10000 ∧ (t.flag .cy = true ↔ s.reg16 r = 0xFFFF) ∧
      (t.flag .v = true ↔ s.reg16 r = 0x7FFF) ∧ PZSOf t (t.reg16 r)) ∧
    (Runs (.decReg16 r) s s.pc { regs := [r], flags := [.cy, .p, .z, .s, .v] } fun t =>
      ((t.reg16 r).toNat + 1) % 0x10000 = (s.reg16 r).toNat ∧ (t.flag .cy = true ↔ s.reg16 r = 0x0000) ∧
      (t.flag .v = true ↔ s.reg16 r = 0x8000) ∧ PZSOf t (t.reg16 r))

/-- 42_data_movement.md R140, R141, R144 to R149. -/
def Obligations.MovCopiesTheSource : Prop :=
  ∀ s : State, s.wf = true →
    (∀ (rm : RM8) (r : Reg8), Runs (.movRm8Reg8 rm r) s s.pc (s.changes8 (resolve s rm) []) fun t =>
      t.read8 (resolve s rm) = s.reg8 r) ∧
    (∀ (rm : RM16) (r : Reg16), Runs (.movRm16Reg16 rm r) s s.pc (s.changes16 (resolve s rm) []) fun t =>
      t.read16 (resolve s rm) = s.reg16 r) ∧
    (∀ (r : Reg8) (rm : RM8), Runs (.movReg8Rm8 r rm) s s.pc { halves := [r] } fun t =>
      t.reg8 r = s.read8 (resolve s rm)) ∧
    (∀ (r : Reg16) (rm : RM16), Runs (.movReg16Rm16 r rm) s s.pc { regs := [r] } fun t =>
      t.reg16 r = s.read16 (resolve s rm)) ∧
    (∀ (rm : RM8) (v : Byte), Runs (.movRm8Imm8 rm v) s s.pc (s.changes8 (resolve s rm) []) fun t =>
      t.read8 (resolve s rm) = v) ∧
    (∀ (rm : RM16) (v : Word), Runs (.movRm16Imm16 rm v) s s.pc (s.changes16 (resolve s rm) []) fun t =>
      t.read16 (resolve s rm) = v) ∧
    (∀ (r : Reg8) (v : Byte), Runs (.movReg8Imm8 r v) s s.pc { halves := [r] } fun t => t.reg8 r = v) ∧
    (∀ (r : Reg16) (v : Word), Runs (.movReg16Imm16 r v) s s.pc { regs := [r] } fun t => t.reg16 r = v) ∧
    (∀ a : Word, Runs (.movAlDirect a) s s.pc { halves := [.al] } fun t => t.reg8 .al = s.memRead8 s.dataSeg a) ∧
    (∀ a : Word, Runs (.movAwDirect a) s s.pc { regs := [.aw] } fun t => t.aw = s.memRead16 s.dataSeg a) ∧
    (∀ a : Word, Runs (.movDirectAl a) s s.pc { cells := [s.cellAt s.dataSeg a] } fun t =>
      t.memRead8 s.dataSeg a = s.reg8 .al) ∧
    (∀ a : Word, Runs (.movDirectAw a) s s.pc { cells := [s.cellAt s.dataSeg a, s.cellAt s.dataSeg (a + 1)] } fun t =>
      t.memRead16 s.dataSeg a = s.aw)

/-- 42_data_movement.md R142, R143. The other register fields raise: `FaultingInstructionsRaise`. -/
def Obligations.MovMovesSegmentRegisters : Prop :=
  ∀ s : State, s.wf = true → ∀ rm : RM16,
    (∀ r : SReg, Runs (.movRm16Sreg rm r) s s.pc (s.changes16 (resolve s rm) []) fun t =>
      t.read16 (resolve s rm) = s.sreg r) ∧
    (Runs (.movDs1Rm16 rm) s s.pc { sregs := [.ds1] } fun t => t.ds1 = s.read16 (resolve s rm)) ∧
    (∀ r : SReg, r = .ss ∨ r = .ds0 → Runs (.movSsDs0Rm16 r rm) s s.pc { sregs := [r] } fun t =>
      t.sreg r = s.read16 (resolve s rm))

/-- 30_encoding.md R80, R81 (D1, D16) and 44_block_and_rep.md R186 (D13), from the bytes at PS:PC.
`unimplementedFirstBytes` is the list of R80. -/
def Obligations.FaultingBytesHaltTheStep : Prop :=
  ∀ s : State, s.halted = none →
    let op := (s.codeByte 0).toNat
    let sub := (s.codeByte 1).toNat
    let reg := sub / 8 % 8
    (op ∈ unimplementedFirstBytes →
      ∃ t, step s = .next t ∧ t.halted = some (.unimplemented (s.codeByte 0) none)) ∧
    ((op ∈ [0x80, 0x81, 0x83] ∧ (reg = 2 ∨ reg = 3)) ∨ (op ∈ [0xF6, 0xF7] ∧ reg ≤ 5) ∨
        (op = 0x0F ∧ sub ≠ 0xE0 ∧ sub ≠ 0xF0) ∨
        (op = 0xF3 ∧ sub ∉ [0x6C, 0x6D, 0x6E, 0x6F, 0xA4, 0xA5, 0xAA, 0xAB, 0xAC, 0xAD]) →
      ∃ t, step s = .next t ∧ t.halted = some (.unimplemented (s.codeByte 0) (some (s.codeByte 1)))) ∧
    ((op ∈ [0x8C, 0x8E] ∧ 4 ≤ reg) ∨ (op = 0x8E ∧ reg = 1) ∨ (op ∈ [0xC6, 0xC7] ∧ reg ≠ 0) ∨
        (op ∈ [0xC0, 0xC1, 0xD0, 0xD1, 0xD2, 0xD3] ∧ reg = 6) →
      ∃ t, step s = .next t ∧ t.halted = some (.undefinedEncoding (s.codeByte 0) (s.codeByte 1)))

/-- 43_stack.md R160 (D14), R162, R164; 20_memory.md R47. -/
def Obligations.PushStoresTheRegister : Prop :=
  ∀ s : State, s.wf = true →
    (∀ r : Reg16,
    (s.sp.toNat < 2 → Raises (.pushReg16 r) s (.stackOverflow s.sp)) ∧
    (2 ≤ s.sp.toNat → Runs (.pushReg16 r) s s.pc s.pushChanges fun t => t.sp = s.sp - 2 ∧
      t.memRead16 s.ss (s.sp - 2) = s.reg16 r)) ∧
    (s.sp.toNat < 2 → Raises .pushDs1 s (.stackOverflow s.sp)) ∧
    (2 ≤ s.sp.toNat → Runs .pushDs1 s s.pc s.pushChanges fun t => t.sp = s.sp - 2 ∧
      t.memRead16 s.ss (s.sp - 2) = s.ds1) ∧
    (s.sp.toNat < 2 → Raises .pushPs s (.stackOverflow s.sp)) ∧
    (2 ≤ s.sp.toNat → Runs .pushPs s s.pc s.pushChanges fun t => t.sp = s.sp - 2 ∧
      t.memRead16 s.ss (s.sp - 2) = s.ps) ∧
    (s.sp.toNat < 2 → Raises .pushSs s (.stackOverflow s.sp)) ∧
    (2 ≤ s.sp.toNat → Runs .pushSs s s.pc s.pushChanges fun t => t.sp = s.sp - 2 ∧
      t.memRead16 s.ss (s.sp - 2) = s.ss) ∧
    (s.sp.toNat < 2 → Raises .pushDs0 s (.stackOverflow s.sp)) ∧
    (2 ≤ s.sp.toNat → Runs .pushDs0 s s.pc s.pushChanges fun t => t.sp = s.sp - 2 ∧
      t.memRead16 s.ss (s.sp - 2) = s.ds0) ∧
    (s.sp.toNat < 2 → Raises .pushPsw s (.stackOverflow s.sp)) ∧
    (2 ≤ s.sp.toNat → Runs .pushPsw s s.pc s.pushChanges fun t => t.sp = s.sp - 2 ∧
      t.memRead16 s.ss (s.sp - 2) = s.psw)

/-- 43_stack.md R161, R163, R165; 20_memory.md R48 (D35). -/
def Obligations.PopLoadsTheRegister : Prop :=
  ∀ s : State,
    (∀ r : Reg16, Runs (.popReg16 r) s s.pc { regs := [r, .sp] } fun t =>
      t.reg16 r = s.memRead16 s.ss s.sp ∧ (r ≠ .sp → t.sp.toNat = (s.sp.toNat + 2) % 0x10000)) ∧
    (Runs .popDs1 s s.pc { regs := [.sp], sregs := [.ds1] } fun t => t.ds1 = s.memRead16 s.ss s.sp ∧
      t.sp = s.sp + 2) ∧
    (Runs .popSs s s.pc { regs := [.sp], sregs := [.ss] } fun t => t.ss = s.memRead16 s.ss s.sp ∧ t.sp = s.sp + 2) ∧
    (Runs .popDs0 s s.pc { regs := [.sp], sregs := [.ds0] } fun t => t.ds0 = s.memRead16 s.ss s.sp ∧
      t.sp = s.sp + 2) ∧
    (Runs .popPsw s s.pc
      { regs := [.sp], flags := [.cy, .p, .ac, .z, .s, .brk, .ie, .dir, .v], allPsw := true } fun t =>
      t.psw = s.memRead16 s.ss s.sp ∧ t.sp = s.sp + 2)

/-- 44_block_and_rep.md R180 to R185 (D28). -/
def Obligations.BlockInstructionsTransferOnce : Prop :=
  ∀ s : State, s.wf = true →
    let step1 : Word := if s.flag .dir = true then -1 else 1
    (Runs .movbkByte s s.pc { regs := [.ix, .iy], cells := [s.cellAt s.ds1 s.iy] } fun t =>
      t.memRead8 s.ds1 s.iy = s.memRead8 s.dataSeg s.ix ∧ t.ix = s.ix + step1 ∧ t.iy = s.iy + step1) ∧
    (Runs .movbkWord s s.pc { regs := [.ix, .iy], cells := [s.cellAt s.ds1 s.iy, s.cellAt s.ds1 (s.iy + 1)] } fun t =>
      t.memRead16 s.ds1 s.iy = s.memRead16 s.dataSeg s.ix ∧ t.ix = s.ix + 2 * step1 ∧ t.iy = s.iy + 2 * step1) ∧
    (Runs .stmByte s s.pc { regs := [.iy], cells := [s.cellAt s.ds1 s.iy] } fun t =>
      t.memRead8 s.ds1 s.iy = s.reg8 .al ∧ t.iy = s.iy + step1) ∧
    (Runs .stmWord s s.pc { regs := [.iy], cells := [s.cellAt s.ds1 s.iy, s.cellAt s.ds1 (s.iy + 1)] } fun t =>
      t.memRead16 s.ds1 s.iy = s.aw ∧ t.iy = s.iy + 2 * step1) ∧
    (Runs .ldmByte s s.pc { regs := [.ix], halves := [.al] } fun t =>
      t.reg8 .al = s.memRead8 s.dataSeg s.ix ∧ t.ix = s.ix + step1) ∧
    (Runs .ldmWord s s.pc { regs := [.aw, .ix] } fun t =>
      t.aw = s.memRead16 s.dataSeg s.ix ∧ t.ix = s.ix + 2 * step1) ∧
    (Runs .outmByte s s.pc { regs := [.ix], ports := [s.dw], output := [(s.dw, s.memRead8 s.dataSeg s.ix)] } fun t =>
      t.portRead8 s.dw = s.memRead8 s.dataSeg s.ix ∧ t.ix = s.ix + step1) ∧
    (Runs .outmWord s s.pc { regs := [.ix], ports := [s.dw, s.dw + 1], output := 
        [(s.dw, s.memRead8 s.dataSeg s.ix), (s.dw + 1, s.memRead8 s.dataSeg (s.ix + 1))] } fun t =>
      t.portRead16 s.dw = s.memRead16 s.dataSeg s.ix ∧ t.ix = s.ix + 2 * step1) ∧
    (Runs .inmByte s s.pc { regs := [.iy], cells := [s.cellAt s.ds1 s.iy] } fun t =>
      t.memRead8 s.ds1 s.iy = s.portRead8 s.dw ∧ t.iy = s.iy + step1) ∧
    (Runs .inmWord s s.pc { regs := [.iy], cells := [s.cellAt s.ds1 s.iy, s.cellAt s.ds1 (s.iy + 1)] } fun t =>
      t.memRead16 s.ds1 s.iy = s.portRead16 s.dw ∧ t.iy = s.iy + 2 * step1)

/-- 44_block_and_rep.md R186 and R189 (D13). The destinations are the cells of `repCells`: IY moved by the width 0
to CW - 1 times, each through the bank select as it is on entry, which no transfer to memory changes. -/
def Obligations.RepRepeatsTheTransfer : Prop :=
  ∀ s : State,
    let step1 : Word := if s.flag .dir = true then -1 else 1
    (∃ t, exec .repMovbkByte s = .next t ∧ Transfers .movbkByte s.cw.toNat s t ∧ t.cw = 0 ∧ t.pc = s.pc ∧
      t.ix = s.ix + s.cw * step1 ∧ t.iy = s.iy + s.cw * step1 ∧ OnlyChanges
        { regs := [.cw, .ix, .iy], cells := s.repCells 1 s.cw.toNat } s t) ∧
    (∃ t, exec .repMovbkWord s = .next t ∧ Transfers .movbkWord s.cw.toNat s t ∧ t.cw = 0 ∧ t.pc = s.pc ∧
      t.ix = s.ix + s.cw * (2 * step1) ∧ t.iy = s.iy + s.cw * (2 * step1) ∧ OnlyChanges
        { regs := [.cw, .ix, .iy], cells := s.repCells 2 s.cw.toNat } s t) ∧
    (∃ t, exec .repStmByte s = .next t ∧ Transfers .stmByte s.cw.toNat s t ∧ t.cw = 0 ∧ t.pc = s.pc ∧
      t.iy = s.iy + s.cw * step1 ∧ OnlyChanges { regs := [.cw, .iy], cells := s.repCells 1 s.cw.toNat } s t) ∧
    (∃ t, exec .repStmWord s = .next t ∧ Transfers .stmWord s.cw.toNat s t ∧ t.cw = 0 ∧ t.pc = s.pc ∧
      t.iy = s.iy + s.cw * (2 * step1) ∧ OnlyChanges { regs := [.cw, .iy], cells := s.repCells 2 s.cw.toNat } s t) ∧
    (∃ t, exec .repLdmByte s = .next t ∧ Transfers .ldmByte s.cw.toNat s t ∧ t.cw = 0 ∧ t.pc = s.pc ∧
      t.ix = s.ix + s.cw * step1 ∧ OnlyChanges { halves := [.al], regs := [.cw, .ix] } s t) ∧
    (∃ t, exec .repLdmWord s = .next t ∧ Transfers .ldmWord s.cw.toNat s t ∧ t.cw = 0 ∧ t.pc = s.pc ∧
      t.ix = s.ix + s.cw * (2 * step1) ∧ OnlyChanges { regs := [.aw, .cw, .ix] } s t) ∧
    (∃ t out, exec .repOutmByte s = .next t ∧ Transfers .outmByte s.cw.toNat s t ∧ t.cw = 0 ∧ t.pc = s.pc ∧
      t.ix = s.ix + s.cw * step1 ∧ out.length = s.cw.toNat ∧ (∀ e ∈ out, e.1 ∈ [s.dw]) ∧ 
      OnlyChanges { regs := [.cw, .ix], ports := [s.dw], output := out } s t) ∧
    (∃ t out, exec .repOutmWord s = .next t ∧ Transfers .outmWord s.cw.toNat s t ∧ t.cw = 0 ∧ t.pc = s.pc ∧
      t.ix = s.ix + s.cw * (2 * step1) ∧ out.length = 2 * s.cw.toNat ∧ (∀ e ∈ out, e.1 ∈ [s.dw, s.dw + 1]) ∧ 
      OnlyChanges { regs := [.cw, .ix], ports := [s.dw, s.dw + 1], output := out } s t) ∧
    (∃ t, exec .repInmByte s = .next t ∧ Transfers .inmByte s.cw.toNat s t ∧ t.cw = 0 ∧ t.pc = s.pc ∧
      t.iy = s.iy + s.cw * step1 ∧ OnlyChanges { regs := [.cw, .iy], cells := s.repCells 1 s.cw.toNat } s t) ∧
    (∃ t, exec .repInmWord s = .next t ∧ Transfers .inmWord s.cw.toNat s t ∧ t.cw = 0 ∧ t.pc = s.pc ∧
      t.iy = s.iy + s.cw * (2 * step1) ∧ OnlyChanges { regs := [.cw, .iy], cells := s.repCells 2 s.cw.toNat } s t) ∧
    (s.cw = 0 → ∀ i ∈ [Instr.repMovbkByte, .repMovbkWord, .repStmByte, .repStmWord, .repLdmByte, .repLdmWord,
      .repOutmByte, .repOutmWord, .repInmByte, .repInmWord], exec i s = .next s)

/-- 45_control_flow.md R200 to R202. -/
def Obligations.BranchesLoadPc : Prop :=
  ∀ s : State,
    (∀ d : Word, Runs (.brNear d) s (BitVec.ofInt 16 (s.pc.toNat + d.toInt)) {} fun _ => True) ∧
    (∀ d : Byte, Runs (.brShort d) s (BitVec.ofInt 16 (s.pc.toNat + d.toInt)) {} fun _ => True) ∧
    (∀ off seg : Word, Runs (.brFar off seg) s off { sregs := [.ps] } fun t => t.ps = seg)

/-- 45_control_flow.md R203, R204 (D27). -/
def Obligations.CallPushesTheReturnAddress : Prop :=
  ∀ s : State, s.wf = true →
    (∀ d : Word, (s.sp.toNat < 2 → Raises (.callNear d) s (.stackOverflow s.sp)) ∧
      (2 ≤ s.sp.toNat → Runs (.callNear d) s (BitVec.ofInt 16 (s.pc.toNat + d.toInt)) s.pushChanges fun t =>
        t.sp = s.sp - 2 ∧ t.memRead16 s.ss (s.sp - 2) = s.pc)) ∧
    (∀ off seg : Word, (s.sp.toNat < 2 → Raises (.callFar off seg) s (.stackOverflow s.sp)) ∧
      (2 ≤ s.sp.toNat → s.sp.toNat < 4 → Raises (.callFar off seg) s (.stackOverflow (s.sp - 2))) ∧
      (4 ≤ s.sp.toNat → Runs (.callFar off seg) s off
        { regs := [.sp], sregs := [.ps], cells := [s.cellAt s.ss (s.sp - 4), s.cellAt s.ss (s.sp - 3),
          s.cellAt s.ss (s.sp - 2), s.cellAt s.ss (s.sp - 1)] } fun t =>
        t.sp = s.sp - 4 ∧ t.memRead16 s.ss (s.sp - 4) = s.pc ∧ t.memRead16 s.ss (s.sp - 2) = s.ps ∧ t.ps = seg))

/-- 45_control_flow.md R205, R206 (D27). -/
def Obligations.RetPopsTheReturnAddress : Prop :=
  ∀ s : State,
    (Runs .retNear s (s.memRead16 s.ss s.sp) { regs := [.sp] } fun t => t.sp = s.sp + 2) ∧
    (Runs .retFar s (s.memRead16 s.ss s.sp) { regs := [.sp], sregs := [.ps] } fun t =>
      t.ps = s.memRead16 s.ss (s.sp + 2) ∧ t.sp = s.sp + 4)

/-- 45_control_flow.md R207 to R223 (D30). -/
def Obligations.ConditionalBranchesTestTheirFlags : Prop :=
  ∀ (s : State) (d : Byte),
    let taken := BitVec.ofInt 16 (s.pc.toNat + d.toInt)
    (((s.flag .v = true) → Runs (.bv d) s taken {} fun _ => True) ∧
      (¬ (s.flag .v = true) → Runs (.bv d) s s.pc {} fun _ => True)) ∧
    (((s.flag .v = false) → Runs (.bnv d) s taken {} fun _ => True) ∧
      (¬ (s.flag .v = false) → Runs (.bnv d) s s.pc {} fun _ => True)) ∧
    (((s.flag .cy = true) → Runs (.bc d) s taken {} fun _ => True) ∧
      (¬ (s.flag .cy = true) → Runs (.bc d) s s.pc {} fun _ => True)) ∧
    (((s.flag .cy = false) → Runs (.bnc d) s taken {} fun _ => True) ∧
      (¬ (s.flag .cy = false) → Runs (.bnc d) s s.pc {} fun _ => True)) ∧
    (((s.flag .z = true) → Runs (.be d) s taken {} fun _ => True) ∧
      (¬ (s.flag .z = true) → Runs (.be d) s s.pc {} fun _ => True)) ∧
    (((s.flag .z = false) → Runs (.bne d) s taken {} fun _ => True) ∧
      (¬ (s.flag .z = false) → Runs (.bne d) s s.pc {} fun _ => True)) ∧
    (((s.flag .cy = true ∨ s.flag .z = true) → Runs (.bnh d) s taken {} fun _ => True) ∧
      (¬ (s.flag .cy = true ∨ s.flag .z = true) → Runs (.bnh d) s s.pc {} fun _ => True)) ∧
    (((s.flag .cy = false ∧ s.flag .z = false) → Runs (.bh d) s taken {} fun _ => True) ∧
      (¬ (s.flag .cy = false ∧ s.flag .z = false) → Runs (.bh d) s s.pc {} fun _ => True)) ∧
    (((s.flag .s = true) → Runs (.bn d) s taken {} fun _ => True) ∧
      (¬ (s.flag .s = true) → Runs (.bn d) s s.pc {} fun _ => True)) ∧
    (((s.flag .s = false) → Runs (.bp d) s taken {} fun _ => True) ∧
      (¬ (s.flag .s = false) → Runs (.bp d) s s.pc {} fun _ => True)) ∧
    (((s.flag .p = true) → Runs (.bpe d) s taken {} fun _ => True) ∧
      (¬ (s.flag .p = true) → Runs (.bpe d) s s.pc {} fun _ => True)) ∧
    (((s.flag .p = false) → Runs (.bpo d) s taken {} fun _ => True) ∧
      (¬ (s.flag .p = false) → Runs (.bpo d) s s.pc {} fun _ => True)) ∧
    (((s.flag .s ≠ s.flag .v) → Runs (.blt d) s taken {} fun _ => True) ∧
      (¬ (s.flag .s ≠ s.flag .v) → Runs (.blt d) s s.pc {} fun _ => True)) ∧
    (((s.flag .s = s.flag .v) → Runs (.bge d) s taken {} fun _ => True) ∧
      (¬ (s.flag .s = s.flag .v) → Runs (.bge d) s s.pc {} fun _ => True)) ∧
    (((s.flag .s ≠ s.flag .v ∨ s.flag .z = true) → Runs (.ble d) s taken {} fun _ => True) ∧
      (¬ (s.flag .s ≠ s.flag .v ∨ s.flag .z = true) → Runs (.ble d) s s.pc {} fun _ => True)) ∧
    (((s.flag .s = s.flag .v ∧ s.flag .z = false) → Runs (.bgt d) s taken {} fun _ => True) ∧
      (¬ (s.flag .s = s.flag .v ∧ s.flag .z = false) → Runs (.bgt d) s s.pc {} fun _ => True))

/-- 46_io.md R240 to R247 (D10). -/
def Obligations.InAndOutMoveThePort : Prop :=
  ∀ s : State, s.wf = true →
    (∀ p : Byte,
      (Runs (.inAlImm8 p) s s.pc { halves := [.al] } fun t => t.reg8 .al = s.portRead8 (p.setWidth 16)) ∧
      (Runs (.inAwImm8 p) s s.pc { regs := [.aw] } fun t =>
        t.reg8 .al = s.portRead8 (p.setWidth 16) ∧ t.reg8 .ah = s.portRead8 (p.setWidth 16 + 1)) ∧
      (Runs (.outImm8Al p) s s.pc { ports := [p.setWidth 16], output := [(p.setWidth 16, s.reg8 .al)] } fun t =>
        t.portRead8 (p.setWidth 16) = s.reg8 .al) ∧
      (Runs (.outImm8Aw p) s s.pc
          { ports := [p.setWidth 16, p.setWidth 16 + 1],
            output := [(p.setWidth 16, s.reg8 .al), (p.setWidth 16 + 1, s.reg8 .ah)] } fun t =>
        t.portRead8 (p.setWidth 16) = s.reg8 .al ∧ t.portRead8 (p.setWidth 16 + 1) = s.reg8 .ah)) ∧
    (Runs .inAlDw s s.pc { halves := [.al] } fun t => t.reg8 .al = s.portRead8 s.dw) ∧
    (Runs .inAwDw s s.pc { regs := [.aw] } fun t =>
      t.reg8 .al = s.portRead8 s.dw ∧ t.reg8 .ah = s.portRead8 (s.dw + 1)) ∧
    (Runs .outDwAl s s.pc { ports := [s.dw], output := [(s.dw, s.reg8 .al)] } fun t =>
      t.portRead8 s.dw = s.reg8 .al) ∧
    (Runs .outDwAw s s.pc
        { ports := [s.dw, s.dw + 1], output := [(s.dw, s.reg8 .al), (s.dw + 1, s.reg8 .ah)] } fun t =>
      t.portRead8 s.dw = s.reg8 .al ∧ t.portRead8 (s.dw + 1) = s.reg8 .ah)

/-- 47_shift_rotate.md R250 to R254, R259 (D12). -/
def Obligations.RotatesRotate : Prop :=
  ∀ s : State, s.wf = true →
    SixForms s .rolRm8Imm8 .rolRm16Imm8 .rolRm8One .rolRm16One .rolRm8Cl .rolRm16Cl
      (fun i x a n => n ≠ 0 → Runs i s s.pc (s.changes8 x [.cy, .v]) fun t =>
        t.read8 x = a.rotateLeft n.toNat ∧ t.flag .cy = (t.read8 x).getLsbD 0 ∧
          (t.flag .v = true ↔ (t.read8 x).msb ≠ a.msb))
      (fun i x a n => n ≠ 0 → Runs i s s.pc (s.changes16 x [.cy, .v]) fun t =>
        t.read16 x = a.rotateLeft n.toNat ∧ t.flag .cy = (t.read16 x).getLsbD 0 ∧
          (t.flag .v = true ↔ (t.read16 x).msb ≠ a.msb)) ∧
    SixForms s .rorRm8Imm8 .rorRm16Imm8 .rorRm8One .rorRm16One .rorRm8Cl .rorRm16Cl
      (fun i x a n => n ≠ 0 → Runs i s s.pc (s.changes8 x [.cy, .v]) fun t =>
        t.read8 x = a.rotateRight n.toNat ∧ t.flag .cy = (t.read8 x).getLsbD 7 ∧
          (t.flag .v = true ↔ (t.read8 x).msb ≠ a.msb))
      (fun i x a n => n ≠ 0 → Runs i s s.pc (s.changes16 x [.cy, .v]) fun t =>
        t.read16 x = a.rotateRight n.toNat ∧ t.flag .cy = (t.read16 x).getLsbD 15 ∧
          (t.flag .v = true ↔ (t.read16 x).msb ≠ a.msb)) ∧
    SixForms s .rolcRm8Imm8 .rolcRm16Imm8 .rolcRm8One .rolcRm16One .rolcRm8Cl .rolcRm16Cl
      (fun i x a n => n ≠ 0 → Runs i s s.pc (s.changes8 x [.cy, .v]) fun t =>
        BitVec.ofBool (t.flag .cy) ++ t.read8 x = (BitVec.ofBool (s.flag .cy) ++ a).rotateLeft n.toNat
          ∧ (t.flag .v = true ↔ (t.read8 x).msb ≠ a.msb))
      (fun i x a n => n ≠ 0 → Runs i s s.pc (s.changes16 x [.cy, .v]) fun t =>
        BitVec.ofBool (t.flag .cy) ++ t.read16 x = (BitVec.ofBool (s.flag .cy) ++ a).rotateLeft n.toNat
          ∧ (t.flag .v = true ↔ (t.read16 x).msb ≠ a.msb)) ∧
    SixForms s .rorcRm8Imm8 .rorcRm16Imm8 .rorcRm8One .rorcRm16One .rorcRm8Cl .rorcRm16Cl
      (fun i x a n => n ≠ 0 → Runs i s s.pc (s.changes8 x [.cy, .v]) fun t =>
        BitVec.ofBool (t.flag .cy) ++ t.read8 x = (BitVec.ofBool (s.flag .cy) ++ a).rotateRight n.toNat
          ∧ (t.flag .v = true ↔ (t.read8 x).msb ≠ a.msb))
      (fun i x a n => n ≠ 0 → Runs i s s.pc (s.changes16 x [.cy, .v]) fun t =>
        BitVec.ofBool (t.flag .cy) ++ t.read16 x = (BitVec.ofBool (s.flag .cy) ++ a).rotateRight n.toNat
          ∧ (t.flag .v = true ↔ (t.read16 x).msb ≠ a.msb))

/-- 47_shift_rotate.md R250, R255 to R257, R259 (D12). `/` on integers is the floor for a positive divisor. -/
def Obligations.ShiftsShift : Prop :=
  ∀ s : State, s.wf = true →
    SixForms s .shlRm8Imm8 .shlRm16Imm8 .shlRm8One .shlRm16One .shlRm8Cl .shlRm16Cl
      (fun i x a n => n ≠ 0 → Runs i s s.pc (s.changes8 x [.cy, .v, .p, .z, .s]) fun t =>
        (t.read8 x).toNat = a.toNat * 2 ^ n.toNat % 2 ^ 8 ∧
          t.flag .cy = (decide (n.toNat ≤ 8) && a.getLsbD (8 - n.toNat)) ∧
            (t.flag .v = true ↔ (t.read8 x).msb ≠ a.msb) ∧ PZSOf t (t.read8 x))
      (fun i x a n => n ≠ 0 → Runs i s s.pc (s.changes16 x [.cy, .v, .p, .z, .s]) fun t =>
        (t.read16 x).toNat = a.toNat * 2 ^ n.toNat % 2 ^ 16 ∧
          t.flag .cy = (decide (n.toNat ≤ 16) && a.getLsbD (16 - n.toNat)) ∧
            (t.flag .v = true ↔ (t.read16 x).msb ≠ a.msb) ∧ PZSOf t (t.read16 x)) ∧
    SixForms s .shrRm8Imm8 .shrRm16Imm8 .shrRm8One .shrRm16One .shrRm8Cl .shrRm16Cl
      (fun i x a n => n ≠ 0 → Runs i s s.pc (s.changes8 x [.cy, .v, .p, .z, .s]) fun t =>
        (t.read8 x).toNat = a.toNat / 2 ^ n.toNat ∧ t.flag .cy = a.getLsbD (n.toNat - 1) ∧
          (t.flag .v = true ↔ (t.read8 x).msb ≠ a.msb) ∧
          PZSOf t (t.read8 x))
      (fun i x a n => n ≠ 0 → Runs i s s.pc (s.changes16 x [.cy, .v, .p, .z, .s]) fun t =>
        (t.read16 x).toNat = a.toNat / 2 ^ n.toNat ∧ t.flag .cy = a.getLsbD (n.toNat - 1) ∧
          (t.flag .v = true ↔ (t.read16 x).msb ≠ a.msb) ∧
          PZSOf t (t.read16 x)) ∧
    SixForms s .shraRm8Imm8 .shraRm16Imm8 .shraRm8One .shraRm16One .shraRm8Cl .shraRm16Cl
      (fun i x a n => n ≠ 0 → Runs i s s.pc (s.changes8 x [.cy, .v, .p, .z, .s]) fun t =>
        (t.read8 x).toInt = a.toInt / 2 ^ n.toNat ∧
          t.flag .cy = (if n.toNat < 8 then a.getLsbD (n.toNat - 1) else a.msb) ∧ t.flag .v = false ∧
            PZSOf t (t.read8 x))
      (fun i x a n => n ≠ 0 → Runs i s s.pc (s.changes16 x [.cy, .v, .p, .z, .s]) fun t =>
        (t.read16 x).toInt = a.toInt / 2 ^ n.toNat ∧
          t.flag .cy = (if n.toNat < 16 then a.getLsbD (n.toNat - 1) else a.msb) ∧ t.flag .v = false ∧
            PZSOf t (t.read16 x))

/-- 47_shift_rotate.md R250: "if cnt == 0 nothing more happens". A form with count 1 meets no count 0. -/
def Obligations.ShiftCountZeroChangesNothing : Prop :=
  ∀ s : State,
    SixForms s .rolRm8Imm8 .rolRm16Imm8 .rolRm8One .rolRm16One .rolRm8Cl .rolRm16Cl
      (fun i _ _ n => n = 0 → exec i s = .next s)
      (fun i _ _ n => n = 0 → exec i s = .next s) ∧
    SixForms s .rorRm8Imm8 .rorRm16Imm8 .rorRm8One .rorRm16One .rorRm8Cl .rorRm16Cl
      (fun i _ _ n => n = 0 → exec i s = .next s)
      (fun i _ _ n => n = 0 → exec i s = .next s) ∧
    SixForms s .rolcRm8Imm8 .rolcRm16Imm8 .rolcRm8One .rolcRm16One .rolcRm8Cl .rolcRm16Cl
      (fun i _ _ n => n = 0 → exec i s = .next s)
      (fun i _ _ n => n = 0 → exec i s = .next s) ∧
    SixForms s .rorcRm8Imm8 .rorcRm16Imm8 .rorcRm8One .rorcRm16One .rorcRm8Cl .rorcRm16Cl
      (fun i _ _ n => n = 0 → exec i s = .next s)
      (fun i _ _ n => n = 0 → exec i s = .next s) ∧
    SixForms s .shlRm8Imm8 .shlRm16Imm8 .shlRm8One .shlRm16One .shlRm8Cl .shlRm16Cl
      (fun i _ _ n => n = 0 → exec i s = .next s)
      (fun i _ _ n => n = 0 → exec i s = .next s) ∧
    SixForms s .shrRm8Imm8 .shrRm16Imm8 .shrRm8One .shrRm16One .shrRm8Cl .shrRm16Cl
      (fun i _ _ n => n = 0 → exec i s = .next s)
      (fun i _ _ n => n = 0 → exec i s = .next s) ∧
    SixForms s .shraRm8Imm8 .shraRm16Imm8 .shraRm8One .shraRm16One .shraRm8Cl .shraRm16Cl
      (fun i _ _ n => n = 0 → exec i s = .next s)
      (fun i _ _ n => n = 0 → exec i s = .next s)

/-- 48_extended_addressing.md R271, R272 (D9, D24). -/
def Obligations.BankSwitchJumpsThroughTheVector : Prop :=
  ∀ s : State, s.wf = true → ∀ (n : Byte) (i : Instr), i = .brkxa n ∨ i = .retxa n →
    let bank : Bank := if s.xa = true then .extended else .conventional
    let v := 4 * n.toNat
    Runs i s (s.cell (bank, v + 1) ++ s.cell (bank, v)) { sregs := [.ps], ports := [s.cfg.xaPort] } fun t =>
      t.ps = s.cell (bank, v + 3) ++ s.cell (bank, v + 2) ∧ t.xa = !s.xa ∧
      t.portRead8 s.cfg.xaPort = s.portRead8 s.cfg.xaPort ^^^ s.cfg.xaMask

/-- 49_division.md R281, R282 (D11). That a byte divisor is recorded zero-extended is the model's form
(notes/assumptions/12.md). -/
def Obligations.UnsignedDivision : Prop :=
  ∀ s : State,
    (∀ rm : RM8, let b := s.read8 (resolve s rm)
      (b.toNat ≤ (s.reg8 .ah).toNat → Raises (.divuRm8 rm) s (.divideError 0xF6 (b.setWidth 16))) ∧
      ((s.reg8 .ah).toNat < b.toNat → Runs (.divuRm8 rm) s s.pc { regs := [.aw] } fun t =>
        (t.reg8 .al).toNat = s.aw.toNat / b.toNat ∧ (t.reg8 .ah).toNat = s.aw.toNat % b.toNat)) ∧
    (∀ rm : RM16, let b := s.read16 (resolve s rm)
      (b.toNat ≤ s.dw.toNat → Raises (.divuRm16 rm) s (.divideError 0xF7 b)) ∧
      (s.dw.toNat < b.toNat → Runs (.divuRm16 rm) s s.pc { regs := [.aw, .dw] } fun t =>
        t.aw.toNat = (s.dw.toNat * 0x10000 + s.aw.toNat) / b.toNat ∧
        t.dw.toNat = (s.dw.toNat * 0x10000 + s.aw.toNat) % b.toNat))

/-- 49_division.md R283, R284 (D11; truncation is the spec's general knowledge). That a byte divisor is recorded
zero-extended is the model's form (notes/assumptions/12.md). -/
def Obligations.SignedDivision : Prop :=
  ∀ s : State,
    (∀ rm : RM8, let b := s.read8 (resolve s rm)
      let A := s.aw.toInt
      (b = 0 ∨ A.tdiv b.toInt < -128 ∨ 127 < A.tdiv b.toInt →
        Raises (.divRm8 rm) s (.divideError 0xF6 (b.setWidth 16))) ∧
      (b ≠ 0 → -128 ≤ A.tdiv b.toInt → A.tdiv b.toInt ≤ 127 → Runs (.divRm8 rm) s s.pc { regs := [.aw] } fun t =>
        A = (t.reg8 .al).toInt * b.toInt + (t.reg8 .ah).toInt ∧ (t.reg8 .ah).toInt.natAbs < b.toInt.natAbs ∧
        ((t.reg8 .ah).toInt = 0 ∨ ((t.reg8 .ah).toInt < 0 ↔ A < 0)))) ∧
    (∀ rm : RM16, let b := s.read16 (resolve s rm)
      let A := (s.dw ++ s.aw : BitVec 32).toInt
      (b = 0 ∨ A.tdiv b.toInt < -32768 ∨ 32767 < A.tdiv b.toInt → Raises (.divRm16 rm) s (.divideError 0xF7 b)) ∧
      (b ≠ 0 → -32768 ≤ A.tdiv b.toInt → A.tdiv b.toInt ≤ 32767 → Runs (.divRm16 rm) s s.pc
        { regs := [.aw, .dw] } fun t =>
        A = t.aw.toInt * b.toInt + t.dw.toInt ∧ t.dw.toInt.natAbs < b.toInt.natAbs ∧
        (t.dw.toInt = 0 ∨ (t.dw.toInt < 0 ↔ A < 0))))

/-- 40_step_and_prefixes.md R101 to R104. -/
def Obligations.PrefixesSetTheLatch : Prop :=
  ∀ s : State,
    exec .prefixDs1 s = .next { s with segOverride := some .ds1 } ∧
    exec .prefixPs s = .next { s with segOverride := some .ps } ∧
    exec .prefixSs s = .next { s with segOverride := some .ss } ∧
    exec .prefixDs0 s = .next { s with segOverride := some .ds0 }

/-- 30_encoding.md R80, R81 (D1, D16), 60_exceptions.md R301, R304. That the bytes of the spec's lists come to these
raises is `FaultingBytesHaltTheStep`. -/
def Obligations.FaultingInstructionsRaise : Prop :=
  ∀ (s : State) (rm : RM16) (rm8 : RM8) (code : BitVec 3) (sub : Byte),
    Raises (.movRm16SregUndef rm code) s (.undefinedEncoding 0x8C (rm.modrm16 code)) ∧
    Raises (.movPsRm16Undef rm) s (.undefinedEncoding 0x8E (rm.modrm16 1)) ∧
    Raises (.movSregRm16Undef rm code) s (.undefinedEncoding 0x8E (rm.modrm16 code)) ∧
    Raises (.movC6Undef1 rm8) s (.undefinedEncoding 0xC6 (rm8.modrm8 1)) ∧
    Raises (.movC6Undef2to3 rm8 code) s (.undefinedEncoding 0xC6 (rm8.modrm8 code)) ∧
    Raises (.movC6Undef4to7 rm8 code) s (.undefinedEncoding 0xC6 (rm8.modrm8 code)) ∧
    Raises (.movC7Undef1 rm) s (.undefinedEncoding 0xC7 (rm.modrm16 1)) ∧
    Raises (.movC7Undef2to3 rm code) s (.undefinedEncoding 0xC7 (rm.modrm16 code)) ∧
    Raises (.movC7Undef4to7 rm code) s (.undefinedEncoding 0xC7 (rm.modrm16 code)) ∧
    Raises (.shiftC0Undef rm8) s (.undefinedEncoding 0xC0 (rm8.modrm8 6)) ∧
    Raises (.shiftC1Undef rm) s (.undefinedEncoding 0xC1 (rm.modrm16 6)) ∧
    Raises (.shiftD0Undef rm8) s (.undefinedEncoding 0xD0 (rm8.modrm8 6)) ∧
    Raises (.shiftD1Undef rm) s (.undefinedEncoding 0xD1 (rm.modrm16 6)) ∧
    Raises (.shiftD2Undef rm8) s (.undefinedEncoding 0xD2 (rm8.modrm8 6)) ∧
    Raises (.shiftD3Undef rm) s (.undefinedEncoding 0xD3 (rm.modrm16 6)) ∧
    Raises (.escUnimp00 sub) s (.unimplemented 0x0F (some sub)) ∧
    Raises (.escUnimp80 sub) s (.unimplemented 0x0F (some sub)) ∧
    Raises (.escUnimpC0 sub) s (.unimplemented 0x0F (some sub)) ∧
    Raises .escUnimpE1 s (.unimplemented 0x0F (some 0xE1)) ∧
    Raises (.escUnimpE2 sub) s (.unimplemented 0x0F (some sub)) ∧
    Raises (.escUnimpE4 sub) s (.unimplemented 0x0F (some sub)) ∧
    Raises (.escUnimpE8 sub) s (.unimplemented 0x0F (some sub)) ∧
    Raises .escUnimpF1 s (.unimplemented 0x0F (some 0xF1)) ∧
    Raises (.escUnimpF2 sub) s (.unimplemented 0x0F (some sub)) ∧
    Raises (.escUnimpF4 sub) s (.unimplemented 0x0F (some sub)) ∧
    Raises (.escUnimpF8 sub) s (.unimplemented 0x0F (some sub)) ∧
    Raises .unimp10 s (.unimplemented 0x10 none) ∧
    Raises .unimp11 s (.unimplemented 0x11 none) ∧
    Raises .unimp12 s (.unimplemented 0x12 none) ∧
    Raises .unimp13 s (.unimplemented 0x13 none) ∧
    Raises .unimp14 s (.unimplemented 0x14 none) ∧
    Raises .unimp15 s (.unimplemented 0x15 none) ∧
    Raises .unimp18 s (.unimplemented 0x18 none) ∧
    Raises .unimp19 s (.unimplemented 0x19 none) ∧
    Raises .unimp1A s (.unimplemented 0x1A none) ∧
    Raises .unimp1B s (.unimplemented 0x1B none) ∧
    Raises .unimp1C s (.unimplemented 0x1C none) ∧
    Raises .unimp1D s (.unimplemented 0x1D none) ∧
    Raises .unimp27 s (.unimplemented 0x27 none) ∧
    Raises .unimp2F s (.unimplemented 0x2F none) ∧
    Raises .unimp37 s (.unimplemented 0x37 none) ∧
    Raises .unimp3F s (.unimplemented 0x3F none) ∧
    Raises .unimp60 s (.unimplemented 0x60 none) ∧
    Raises .unimp61 s (.unimplemented 0x61 none) ∧
    Raises .unimp62 s (.unimplemented 0x62 none) ∧
    Raises .unimp63 s (.unimplemented 0x63 none) ∧
    Raises .unimp64 s (.unimplemented 0x64 none) ∧
    Raises .unimp65 s (.unimplemented 0x65 none) ∧
    Raises .unimp66 s (.unimplemented 0x66 none) ∧
    Raises .unimp67 s (.unimplemented 0x67 none) ∧
    Raises .unimp68 s (.unimplemented 0x68 none) ∧
    Raises .unimp69 s (.unimplemented 0x69 none) ∧
    Raises .unimp6A s (.unimplemented 0x6A none) ∧
    Raises .unimp6B s (.unimplemented 0x6B none) ∧
    Raises (.addcRm8Imm8Unimp rm8) s (.unimplemented 0x80 (some (rm8.modrm8 2))) ∧
    Raises (.subcRm8Imm8Unimp rm8) s (.unimplemented 0x80 (some (rm8.modrm8 3))) ∧
    Raises (.addcRm16Imm16Unimp rm) s (.unimplemented 0x81 (some (rm.modrm16 2))) ∧
    Raises (.subcRm16Imm16Unimp rm) s (.unimplemented 0x81 (some (rm.modrm16 3))) ∧
    Raises .unimp82 s (.unimplemented 0x82 none) ∧
    Raises (.addcRm16Simm8Unimp rm) s (.unimplemented 0x83 (some (rm.modrm16 2))) ∧
    Raises (.subcRm16Simm8Unimp rm) s (.unimplemented 0x83 (some (rm.modrm16 3))) ∧
    Raises .unimp84 s (.unimplemented 0x84 none) ∧
    Raises .unimp85 s (.unimplemented 0x85 none) ∧
    Raises .unimp86 s (.unimplemented 0x86 none) ∧
    Raises .unimp87 s (.unimplemented 0x87 none) ∧
    Raises .unimp8D s (.unimplemented 0x8D none) ∧
    Raises .unimp8F s (.unimplemented 0x8F none) ∧
    Raises .unimp90 s (.unimplemented 0x90 none) ∧
    Raises .unimp91 s (.unimplemented 0x91 none) ∧
    Raises .unimp92 s (.unimplemented 0x92 none) ∧
    Raises .unimp93 s (.unimplemented 0x93 none) ∧
    Raises .unimp94 s (.unimplemented 0x94 none) ∧
    Raises .unimp95 s (.unimplemented 0x95 none) ∧
    Raises .unimp96 s (.unimplemented 0x96 none) ∧
    Raises .unimp97 s (.unimplemented 0x97 none) ∧
    Raises .unimp98 s (.unimplemented 0x98 none) ∧
    Raises .unimp99 s (.unimplemented 0x99 none) ∧
    Raises .unimp9B s (.unimplemented 0x9B none) ∧
    Raises .unimp9E s (.unimplemented 0x9E none) ∧
    Raises .unimp9F s (.unimplemented 0x9F none) ∧
    Raises .cmpbkByteUnimp s (.unimplemented 0xA6 none) ∧
    Raises .cmpbkWordUnimp s (.unimplemented 0xA7 none) ∧
    Raises .unimpA8 s (.unimplemented 0xA8 none) ∧
    Raises .unimpA9 s (.unimplemented 0xA9 none) ∧
    Raises .cmpmByteUnimp s (.unimplemented 0xAE none) ∧
    Raises .cmpmWordUnimp s (.unimplemented 0xAF none) ∧
    Raises .unimpC2 s (.unimplemented 0xC2 none) ∧
    Raises .unimpC4 s (.unimplemented 0xC4 none) ∧
    Raises .unimpC5 s (.unimplemented 0xC5 none) ∧
    Raises .unimpC8 s (.unimplemented 0xC8 none) ∧
    Raises .unimpC9 s (.unimplemented 0xC9 none) ∧
    Raises .unimpCA s (.unimplemented 0xCA none) ∧
    Raises .unimpCC s (.unimplemented 0xCC none) ∧
    Raises .unimpCD s (.unimplemented 0xCD none) ∧
    Raises .unimpCE s (.unimplemented 0xCE none) ∧
    Raises .unimpCF s (.unimplemented 0xCF none) ∧
    Raises .unimpD4 s (.unimplemented 0xD4 none) ∧
    Raises .unimpD5 s (.unimplemented 0xD5 none) ∧
    Raises .unimpD6 s (.unimplemented 0xD6 none) ∧
    Raises .unimpD7 s (.unimplemented 0xD7 none) ∧
    Raises .unimpD8 s (.unimplemented 0xD8 none) ∧
    Raises .unimpD9 s (.unimplemented 0xD9 none) ∧
    Raises .unimpDA s (.unimplemented 0xDA none) ∧
    Raises .unimpDB s (.unimplemented 0xDB none) ∧
    Raises .unimpDC s (.unimplemented 0xDC none) ∧
    Raises .unimpDD s (.unimplemented 0xDD none) ∧
    Raises .unimpDE s (.unimplemented 0xDE none) ∧
    Raises .unimpDF s (.unimplemented 0xDF none) ∧
    Raises .unimpE0 s (.unimplemented 0xE0 none) ∧
    Raises .unimpE1 s (.unimplemented 0xE1 none) ∧
    Raises .unimpE2 s (.unimplemented 0xE2 none) ∧
    Raises .unimpE3 s (.unimplemented 0xE3 none) ∧
    Raises .unimpF0 s (.unimplemented 0xF0 none) ∧
    Raises .unimpF1 s (.unimplemented 0xF1 none) ∧
    Raises .unimpF2 s (.unimplemented 0xF2 none) ∧
    Raises (.repUnimp00 sub) s (.unimplemented 0xF3 (some sub)) ∧
    Raises (.repUnimp40 sub) s (.unimplemented 0xF3 (some sub)) ∧
    Raises (.repUnimp60 sub) s (.unimplemented 0xF3 (some sub)) ∧
    Raises (.repUnimp68 sub) s (.unimplemented 0xF3 (some sub)) ∧
    Raises (.repUnimp70 sub) s (.unimplemented 0xF3 (some sub)) ∧
    Raises (.repUnimp80 sub) s (.unimplemented 0xF3 (some sub)) ∧
    Raises (.repUnimpA0 sub) s (.unimplemented 0xF3 (some sub)) ∧
    Raises .repCmpbkByteUnimp s (.unimplemented 0xF3 (some 0xA6)) ∧
    Raises .repCmpbkWordUnimp s (.unimplemented 0xF3 (some 0xA7)) ∧
    Raises (.repUnimpA8 sub) s (.unimplemented 0xF3 (some sub)) ∧
    Raises .repCmpmByteUnimp s (.unimplemented 0xF3 (some 0xAE)) ∧
    Raises .repCmpmWordUnimp s (.unimplemented 0xF3 (some 0xAF)) ∧
    Raises (.repUnimpB0 sub) s (.unimplemented 0xF3 (some sub)) ∧
    Raises (.repUnimpC0 sub) s (.unimplemented 0xF3 (some sub)) ∧
    Raises .unimpF4 s (.unimplemented 0xF4 none) ∧
    Raises .unimpF5 s (.unimplemented 0xF5 none) ∧
    Raises (.groupF6Unimp0to3 rm8 code) s (.unimplemented 0xF6 (some (rm8.modrm8 code))) ∧
    Raises (.groupF6Unimp4to5 rm8 code) s (.unimplemented 0xF6 (some (rm8.modrm8 code))) ∧
    Raises (.groupF7Unimp0to3 rm code) s (.unimplemented 0xF7 (some (rm.modrm16 code))) ∧
    Raises (.groupF7Unimp4to5 rm code) s (.unimplemented 0xF7 (some (rm.modrm16 code))) ∧
    Raises .unimpF8 s (.unimplemented 0xF8 none) ∧
    Raises .unimpF9 s (.unimplemented 0xF9 none) ∧
    Raises .unimpFA s (.unimplemented 0xFA none) ∧
    Raises .unimpFB s (.unimplemented 0xFB none) ∧
    Raises .unimpFC s (.unimplemented 0xFC none) ∧
    Raises .unimpFD s (.unimplemented 0xFD none) ∧
    Raises .unimpFE s (.unimplemented 0xFE none) ∧
    Raises .unimpFF s (.unimplemented 0xFF none)
end

