-- ==== Sys2Proof/Laws/Cycles.lean ====
section
/-! SUPPORT. The parts of the cycle cost (70_reset_and_hazards.md R345): what odd operands add depends on parities alone and
grows with each of them, and shares come to their total. -/

namespace Sys2Proof.Machine

theorem isOdd_congr {a b : Nat} (h : a % 2 = b % 2) : isOdd a = isOdd b := by simp only [isOdd, h]

theorem oddCost_cons (key : CycleKey) (reps k a : Nat) (l : List Nat) : oddCost key reps k (a :: l) =
    (if isOdd a then 1 + Config.oddPenalty key.1 key.2 reps k else 0) + oddCost key reps (k + 1) l := rfl

theorem oddCost_congr (key : CycleKey) (reps : Nat) : ∀ (l m : List Nat) (k : Nat),
    l.map (· % 2) = m.map (· % 2) → oddCost key reps k l = oddCost key reps k m
  | [], [], _, _ => rfl
  | a :: l, b :: m, k, h => by
    simp only [List.map_cons, List.cons.injEq] at h
    rw [oddCost_cons, oddCost_cons, isOdd_congr h.1, oddCost_congr key reps l m _ h.2]
  | [], _ :: _, _, h => by simp at h
  | _ :: _, [], _, h => by simp at h

theorem oddCost_lt (key : CycleKey) (reps : Nat) {a b : Nat} {l m : List Nat} (ha : a % 2 = 0) (hb : b % 2 = 1)
    (hl : l.map (· % 2) = m.map (· % 2)) : ∀ (p q : List Nat) (k : Nat), p.map (· % 2) = q.map (· % 2) →
    oddCost key reps k (p ++ a :: l) < oddCost key reps k (q ++ b :: m)
  | [], [], k, _ => by
    rw [List.nil_append, List.nil_append, oddCost_cons, oddCost_cons, oddCost_congr key reps l m _ hl]
    simp [isOdd, ha, hb]
  | x :: p, y :: q, k, h => by
    simp only [List.map_cons, List.cons.injEq] at h
    have := oddCost_lt key reps ha hb hl p q (k + 1) h.2
    rw [List.cons_append, List.cons_append, oddCost_cons, oddCost_cons, isOdd_congr h.1]
    omega
  | [], _ :: _, _, h => by simp at h
  | _ :: _, [], _, h => by simp at h

theorem share_length (wishes : List Nat) : ∀ total, (share total wishes).length = wishes.length := by
  induction wishes with
  | nil => exact fun _ => rfl
  | cons wish wishes ih =>
    intro total
    cases wishes with
    | nil => rfl
    | cons next wishes => simp only [share, List.length_cons, ih (total - min wish total)]

theorem share_sum (wishes : List Nat) (h : wishes ≠ []) : ∀ total, (share total wishes).sum = total := by
  induction wishes with
  | nil => exact absurd rfl h
  | cons wish wishes ih =>
    intro total
    cases wishes with
    | nil => simp [share]
    | cons next wishes =>
      rw [share, List.sum_cons, ih (by simp)]
      omega

/-- An entry of the scenario costs its share, wherever it stands in a list of entries without repeats. -/
theorem sum_lookup_zip (ks : List CycleKey) (f : CycleKey → Nat) : ∀ ns : List Nat, ks.Nodup → ns.length = ks.length →
    (ks.map fun k => ((ks.zip ns).lookup k).getD (f k)).sum = ns.sum := by
  induction ks with
  | nil => intro ns _ h; simp [List.length_eq_zero_iff.1 h]
  | cons k ks ih =>
    intro ns hd h
    cases ns with
    | nil => simp at h
    | cons n ns =>
      rw [List.nodup_cons] at hd
      have rest : ks.map (fun x => (((k :: ks).zip (n :: ns)).lookup x).getD (f x)) =
          ks.map fun x => ((ks.zip ns).lookup x).getD (f x) := by
        apply List.map_congr_left
        intro x hx
        have : (x == k) = false := beq_eq_false_iff_ne.2 fun e => hd.1 (e ▸ hx)
        simp [List.lookup, this]
      rw [List.map_cons, List.sum_cons, rest, ih ns hd.2 (by simpa using h)]
      simp

/-- The scenario's entries have what is left of 23 after one cycle each. -/
theorem evenCost_scenario :
    (scenarioKeys.map fun k => evenCost k 0).sum = 23 - scenarioKeys.length := by
  have distinct : scenarioKeys.Nodup := by
    unfold scenarioKeys
    cases Config.scenarioHasSixSteps <;> decide
  have nonempty : scenarioKeys ≠ [] := by simp [scenarioKeys]
  have h := sum_lookup_zip scenarioKeys (fun k => Config.baseCycles k.1 k.2 0)
    (share (23 - scenarioKeys.length) (scenarioKeys.map fun k => Config.baseCycles k.1 k.2 0)) distinct
    (by rw [share_length, List.length_map])
  rwa [share_sum _ (by simpa using nonempty)] at h

end Sys2Proof.Machine
end

