-- ==== Sys2Proof/Laws/Flags.lean ====
section
/-! SUPPORT. What setting one flag does to every bit of the PSW (10_state.md R15). -/

namespace Sys2Proof.Machine

theorem Flag.bit_injective {f g : Flag} (h : f.bit = g.bit) : f = g := by
  cases f <;> cases g <;> first | rfl | exact absurd h (by decide)

theorem getLsbD_mask (f : Flag) (i : Nat) : f.mask.getLsbD i = decide (i = f.bit) := by
  rcases Nat.lt_or_ge i 16 with hi | hi
  · cases f <;> (revert i; decide)
  · rw [BitVec.getLsbD_of_ge _ _ hi]
    have : i ≠ f.bit := by cases f <;> simp only [Flag.bit] <;> omega
    simp [this]

/-- "setting or clearing one flag changes no other bit" (R15). -/
theorem getLsbD_setFlag (psw : Word) (f : Flag) (b : Bool) (i : Nat) :
    (setFlag psw f b).getLsbD i = if i = f.bit then b else psw.getLsbD i := by
  have hf : f.bit < 16 := by cases f <;> decide
  by_cases hi : i = f.bit
  · subst hi
    cases b <;> simp [setFlag, getLsbD_mask, hf]
  · rcases Nat.lt_or_ge i 16 with h | h
    · have hm := getLsbD_mask f i
      rw [decide_eq_false hi] at hm
      cases b <;> simp only [setFlag, if_true, Bool.false_eq_true, if_false, BitVec.getLsbD_or, BitVec.getLsbD_and,
        BitVec.getLsbD_not, hm, hi] <;> simp [h]
    · rw [BitVec.getLsbD_of_ge _ _ h, if_neg hi, BitVec.getLsbD_of_ge _ _ h]

theorem getFlag_setFlag (psw : Word) (f g : Flag) (b : Bool) :
    getFlag (setFlag psw f b) g = if g = f then b else getFlag psw g := by
  rw [getFlag, getLsbD_setFlag]
  by_cases h : g = f
  · simp [h]
  · rw [if_neg h, if_neg fun k => h (Flag.bit_injective k), getFlag]

@[simp] theorem getFlag_setFlag_same (psw : Word) (f : Flag) (b : Bool) : getFlag (setFlag psw f b) f = b := by
  simp [getFlag_setFlag]

end Sys2Proof.Machine
end

