-- ==== Sys2Proof/Laws/State.lean ====
section
/-! SUPPORT. One lemma per update of the state and per piece of state: what each named update of Machine/Ops.lean leaves and
what it writes, read through the accessors, so that no later proof unfolds a record update. The registers are read through
`reg16` and `sreg`; `reg16_aw` and its fellows turn a field into that form. -/

namespace Sys2Proof.Machine.State

variable (s : State)

/-! ## The fields of the registers are the registers -/

@[simp] theorem reg16_aw : s.reg16 .aw = s.aw := rfl
@[simp] theorem reg16_cw : s.reg16 .cw = s.cw := rfl
@[simp] theorem reg16_dw : s.reg16 .dw = s.dw := rfl
@[simp] theorem reg16_bw : s.reg16 .bw = s.bw := rfl
@[simp] theorem reg16_sp : s.reg16 .sp = s.sp := rfl
@[simp] theorem reg16_bp : s.reg16 .bp = s.bp := rfl
@[simp] theorem reg16_ix : s.reg16 .ix = s.ix := rfl
@[simp] theorem reg16_iy : s.reg16 .iy = s.iy := rfl
@[simp] theorem sreg_ds1 : s.sreg .ds1 = s.ds1 := rfl
@[simp] theorem sreg_ps : s.sreg .ps = s.ps := rfl
@[simp] theorem sreg_ss : s.sreg .ss = s.ss := rfl
@[simp] theorem sreg_ds0 : s.sreg .ds0 = s.ds0 := rfl

/-! ## `setReg16` -/

@[simp] theorem reg16_setReg16 (r : Reg16) (v : Word) (q : Reg16) :
    (s.setReg16 r v).reg16 q = if q = r then v else s.reg16 q := by cases r <;> cases q <;> rfl
@[simp] theorem reg16_setReg16_same (r : Reg16) (v : Word) : (s.setReg16 r v).reg16 r = v := by cases r <;> rfl
@[simp] theorem setReg16_aw (r : Reg16) (v : Word) : (s.setReg16 r v).aw = if .aw = r then v else s.aw := by cases r <;> rfl
@[simp] theorem setReg16_cw (r : Reg16) (v : Word) : (s.setReg16 r v).cw = if .cw = r then v else s.cw := by cases r <;> rfl
@[simp] theorem setReg16_dw (r : Reg16) (v : Word) : (s.setReg16 r v).dw = if .dw = r then v else s.dw := by cases r <;> rfl
@[simp] theorem setReg16_bw (r : Reg16) (v : Word) : (s.setReg16 r v).bw = if .bw = r then v else s.bw := by cases r <;> rfl
@[simp] theorem setReg16_sp (r : Reg16) (v : Word) : (s.setReg16 r v).sp = if .sp = r then v else s.sp := by cases r <;> rfl
@[simp] theorem setReg16_bp (r : Reg16) (v : Word) : (s.setReg16 r v).bp = if .bp = r then v else s.bp := by cases r <;> rfl
@[simp] theorem setReg16_ix (r : Reg16) (v : Word) : (s.setReg16 r v).ix = if .ix = r then v else s.ix := by cases r <;> rfl
@[simp] theorem setReg16_iy (r : Reg16) (v : Word) : (s.setReg16 r v).iy = if .iy = r then v else s.iy := by cases r <;> rfl
@[simp] theorem sreg_setReg16 (r : Reg16) (v : Word) (q : SReg) : (s.setReg16 r v).sreg q = s.sreg q := by cases r <;> cases q <;> rfl
@[simp] theorem setReg16_ds1 (r : Reg16) (v : Word) : (s.setReg16 r v).ds1 = s.ds1 := by cases r <;> rfl
@[simp] theorem setReg16_ps (r : Reg16) (v : Word) : (s.setReg16 r v).ps = s.ps := by cases r <;> rfl
@[simp] theorem setReg16_ss (r : Reg16) (v : Word) : (s.setReg16 r v).ss = s.ss := by cases r <;> rfl
@[simp] theorem setReg16_ds0 (r : Reg16) (v : Word) : (s.setReg16 r v).ds0 = s.ds0 := by cases r <;> rfl
@[simp] theorem setReg16_pc (r : Reg16) (v : Word) : (s.setReg16 r v).pc = s.pc := by cases r <;> rfl
@[simp] theorem setReg16_psw (r : Reg16) (v : Word) : (s.setReg16 r v).psw = s.psw := by cases r <;> rfl
@[simp] theorem setReg16_memory (r : Reg16) (v : Word) : (s.setReg16 r v).memory = s.memory := by cases r <;> rfl
@[simp] theorem setReg16_extended (r : Reg16) (v : Word) : (s.setReg16 r v).extended = s.extended := by cases r <;> rfl
@[simp] theorem setReg16_ports (r : Reg16) (v : Word) : (s.setReg16 r v).ports = s.ports := by cases r <;> rfl
@[simp] theorem setReg16_internal (r : Reg16) (v : Word) : (s.setReg16 r v).internal = s.internal := by cases r <;> rfl
@[simp] theorem setReg16_segOverride (r : Reg16) (v : Word) : (s.setReg16 r v).segOverride = s.segOverride := by cases r <;> rfl
@[simp] theorem setReg16_lastOpcode (r : Reg16) (v : Word) : (s.setReg16 r v).lastOpcode = s.lastOpcode := by cases r <;> rfl
@[simp] theorem setReg16_clock (r : Reg16) (v : Word) : (s.setReg16 r v).clock = s.clock := by cases r <;> rfl
@[simp] theorem setReg16_trace (r : Reg16) (v : Word) : (s.setReg16 r v).trace = s.trace := by cases r <;> rfl
@[simp] theorem setReg16_halted (r : Reg16) (v : Word) : (s.setReg16 r v).halted = s.halted := by cases r <;> rfl
@[simp] theorem setReg16_cfg (r : Reg16) (v : Word) : (s.setReg16 r v).cfg = s.cfg := by cases r <;> rfl

/-! ## `setSReg` -/

@[simp] theorem reg16_setSReg (r : SReg) (v : Word) (q : Reg16) : (s.setSReg r v).reg16 q = s.reg16 q := by cases r <;> cases q <;> rfl
@[simp] theorem setSReg_aw (r : SReg) (v : Word) : (s.setSReg r v).aw = s.aw := by cases r <;> rfl
@[simp] theorem setSReg_cw (r : SReg) (v : Word) : (s.setSReg r v).cw = s.cw := by cases r <;> rfl
@[simp] theorem setSReg_dw (r : SReg) (v : Word) : (s.setSReg r v).dw = s.dw := by cases r <;> rfl
@[simp] theorem setSReg_bw (r : SReg) (v : Word) : (s.setSReg r v).bw = s.bw := by cases r <;> rfl
@[simp] theorem setSReg_sp (r : SReg) (v : Word) : (s.setSReg r v).sp = s.sp := by cases r <;> rfl
@[simp] theorem setSReg_bp (r : SReg) (v : Word) : (s.setSReg r v).bp = s.bp := by cases r <;> rfl
@[simp] theorem setSReg_ix (r : SReg) (v : Word) : (s.setSReg r v).ix = s.ix := by cases r <;> rfl
@[simp] theorem setSReg_iy (r : SReg) (v : Word) : (s.setSReg r v).iy = s.iy := by cases r <;> rfl
@[simp] theorem sreg_setSReg (r : SReg) (v : Word) (q : SReg) :
    (s.setSReg r v).sreg q = if q = r then v else s.sreg q := by cases r <;> cases q <;> rfl
@[simp] theorem sreg_setSReg_same (r : SReg) (v : Word) : (s.setSReg r v).sreg r = v := by cases r <;> rfl
@[simp] theorem setSReg_ds1 (r : SReg) (v : Word) : (s.setSReg r v).ds1 = if .ds1 = r then v else s.ds1 := by cases r <;> rfl
@[simp] theorem setSReg_ps (r : SReg) (v : Word) : (s.setSReg r v).ps = if .ps = r then v else s.ps := by cases r <;> rfl
@[simp] theorem setSReg_ss (r : SReg) (v : Word) : (s.setSReg r v).ss = if .ss = r then v else s.ss := by cases r <;> rfl
@[simp] theorem setSReg_ds0 (r : SReg) (v : Word) : (s.setSReg r v).ds0 = if .ds0 = r then v else s.ds0 := by cases r <;> rfl
@[simp] theorem setSReg_pc (r : SReg) (v : Word) : (s.setSReg r v).pc = s.pc := by cases r <;> rfl
@[simp] theorem setSReg_psw (r : SReg) (v : Word) : (s.setSReg r v).psw = s.psw := by cases r <;> rfl
@[simp] theorem setSReg_memory (r : SReg) (v : Word) : (s.setSReg r v).memory = s.memory := by cases r <;> rfl
@[simp] theorem setSReg_extended (r : SReg) (v : Word) : (s.setSReg r v).extended = s.extended := by cases r <;> rfl
@[simp] theorem setSReg_ports (r : SReg) (v : Word) : (s.setSReg r v).ports = s.ports := by cases r <;> rfl
@[simp] theorem setSReg_internal (r : SReg) (v : Word) : (s.setSReg r v).internal = s.internal := by cases r <;> rfl
@[simp] theorem setSReg_segOverride (r : SReg) (v : Word) : (s.setSReg r v).segOverride = s.segOverride := by cases r <;> rfl
@[simp] theorem setSReg_lastOpcode (r : SReg) (v : Word) : (s.setSReg r v).lastOpcode = s.lastOpcode := by cases r <;> rfl
@[simp] theorem setSReg_clock (r : SReg) (v : Word) : (s.setSReg r v).clock = s.clock := by cases r <;> rfl
@[simp] theorem setSReg_trace (r : SReg) (v : Word) : (s.setSReg r v).trace = s.trace := by cases r <;> rfl
@[simp] theorem setSReg_halted (r : SReg) (v : Word) : (s.setSReg r v).halted = s.halted := by cases r <;> rfl
@[simp] theorem setSReg_cfg (r : SReg) (v : Word) : (s.setSReg r v).cfg = s.cfg := by cases r <;> rfl

/-! ## `setPc` -/

@[simp] theorem reg16_setPc (v : Word) (q : Reg16) : (s.setPc v).reg16 q = s.reg16 q := by cases q <;> rfl
@[simp] theorem setPc_aw (v : Word) : (s.setPc v).aw = s.aw := rfl
@[simp] theorem setPc_cw (v : Word) : (s.setPc v).cw = s.cw := rfl
@[simp] theorem setPc_dw (v : Word) : (s.setPc v).dw = s.dw := rfl
@[simp] theorem setPc_bw (v : Word) : (s.setPc v).bw = s.bw := rfl
@[simp] theorem setPc_sp (v : Word) : (s.setPc v).sp = s.sp := rfl
@[simp] theorem setPc_bp (v : Word) : (s.setPc v).bp = s.bp := rfl
@[simp] theorem setPc_ix (v : Word) : (s.setPc v).ix = s.ix := rfl
@[simp] theorem setPc_iy (v : Word) : (s.setPc v).iy = s.iy := rfl
@[simp] theorem sreg_setPc (v : Word) (q : SReg) : (s.setPc v).sreg q = s.sreg q := by cases q <;> rfl
@[simp] theorem setPc_ds1 (v : Word) : (s.setPc v).ds1 = s.ds1 := rfl
@[simp] theorem setPc_ps (v : Word) : (s.setPc v).ps = s.ps := rfl
@[simp] theorem setPc_ss (v : Word) : (s.setPc v).ss = s.ss := rfl
@[simp] theorem setPc_ds0 (v : Word) : (s.setPc v).ds0 = s.ds0 := rfl
@[simp] theorem setPc_pc (v : Word) : (s.setPc v).pc = v := rfl
@[simp] theorem setPc_psw (v : Word) : (s.setPc v).psw = s.psw := rfl
@[simp] theorem setPc_memory (v : Word) : (s.setPc v).memory = s.memory := rfl
@[simp] theorem setPc_extended (v : Word) : (s.setPc v).extended = s.extended := rfl
@[simp] theorem setPc_ports (v : Word) : (s.setPc v).ports = s.ports := rfl
@[simp] theorem setPc_internal (v : Word) : (s.setPc v).internal = s.internal := rfl
@[simp] theorem setPc_segOverride (v : Word) : (s.setPc v).segOverride = s.segOverride := rfl
@[simp] theorem setPc_lastOpcode (v : Word) : (s.setPc v).lastOpcode = s.lastOpcode := rfl
@[simp] theorem setPc_clock (v : Word) : (s.setPc v).clock = s.clock := rfl
@[simp] theorem setPc_trace (v : Word) : (s.setPc v).trace = s.trace := rfl
@[simp] theorem setPc_halted (v : Word) : (s.setPc v).halted = s.halted := rfl
@[simp] theorem setPc_cfg (v : Word) : (s.setPc v).cfg = s.cfg := rfl

/-! ## `setPsw` -/

@[simp] theorem reg16_setPsw (v : Word) (q : Reg16) : (s.setPsw v).reg16 q = s.reg16 q := by cases q <;> rfl
@[simp] theorem setPsw_aw (v : Word) : (s.setPsw v).aw = s.aw := rfl
@[simp] theorem setPsw_cw (v : Word) : (s.setPsw v).cw = s.cw := rfl
@[simp] theorem setPsw_dw (v : Word) : (s.setPsw v).dw = s.dw := rfl
@[simp] theorem setPsw_bw (v : Word) : (s.setPsw v).bw = s.bw := rfl
@[simp] theorem setPsw_sp (v : Word) : (s.setPsw v).sp = s.sp := rfl
@[simp] theorem setPsw_bp (v : Word) : (s.setPsw v).bp = s.bp := rfl
@[simp] theorem setPsw_ix (v : Word) : (s.setPsw v).ix = s.ix := rfl
@[simp] theorem setPsw_iy (v : Word) : (s.setPsw v).iy = s.iy := rfl
@[simp] theorem sreg_setPsw (v : Word) (q : SReg) : (s.setPsw v).sreg q = s.sreg q := by cases q <;> rfl
@[simp] theorem setPsw_ds1 (v : Word) : (s.setPsw v).ds1 = s.ds1 := rfl
@[simp] theorem setPsw_ps (v : Word) : (s.setPsw v).ps = s.ps := rfl
@[simp] theorem setPsw_ss (v : Word) : (s.setPsw v).ss = s.ss := rfl
@[simp] theorem setPsw_ds0 (v : Word) : (s.setPsw v).ds0 = s.ds0 := rfl
@[simp] theorem setPsw_pc (v : Word) : (s.setPsw v).pc = s.pc := rfl
@[simp] theorem setPsw_psw (v : Word) : (s.setPsw v).psw = v := rfl
@[simp] theorem setPsw_memory (v : Word) : (s.setPsw v).memory = s.memory := rfl
@[simp] theorem setPsw_extended (v : Word) : (s.setPsw v).extended = s.extended := rfl
@[simp] theorem setPsw_ports (v : Word) : (s.setPsw v).ports = s.ports := rfl
@[simp] theorem setPsw_internal (v : Word) : (s.setPsw v).internal = s.internal := rfl
@[simp] theorem setPsw_segOverride (v : Word) : (s.setPsw v).segOverride = s.segOverride := rfl
@[simp] theorem setPsw_lastOpcode (v : Word) : (s.setPsw v).lastOpcode = s.lastOpcode := rfl
@[simp] theorem setPsw_clock (v : Word) : (s.setPsw v).clock = s.clock := rfl
@[simp] theorem setPsw_trace (v : Word) : (s.setPsw v).trace = s.trace := rfl
@[simp] theorem setPsw_halted (v : Word) : (s.setPsw v).halted = s.halted := rfl
@[simp] theorem setPsw_cfg (v : Word) : (s.setPsw v).cfg = s.cfg := rfl

/-! ## `setMemory` -/

@[simp] theorem reg16_setMemory (m : Mem) (q : Reg16) : (s.setMemory m).reg16 q = s.reg16 q := by cases q <;> rfl
@[simp] theorem setMemory_aw (m : Mem) : (s.setMemory m).aw = s.aw := rfl
@[simp] theorem setMemory_cw (m : Mem) : (s.setMemory m).cw = s.cw := rfl
@[simp] theorem setMemory_dw (m : Mem) : (s.setMemory m).dw = s.dw := rfl
@[simp] theorem setMemory_bw (m : Mem) : (s.setMemory m).bw = s.bw := rfl
@[simp] theorem setMemory_sp (m : Mem) : (s.setMemory m).sp = s.sp := rfl
@[simp] theorem setMemory_bp (m : Mem) : (s.setMemory m).bp = s.bp := rfl
@[simp] theorem setMemory_ix (m : Mem) : (s.setMemory m).ix = s.ix := rfl
@[simp] theorem setMemory_iy (m : Mem) : (s.setMemory m).iy = s.iy := rfl
@[simp] theorem sreg_setMemory (m : Mem) (q : SReg) : (s.setMemory m).sreg q = s.sreg q := by cases q <;> rfl
@[simp] theorem setMemory_ds1 (m : Mem) : (s.setMemory m).ds1 = s.ds1 := rfl
@[simp] theorem setMemory_ps (m : Mem) : (s.setMemory m).ps = s.ps := rfl
@[simp] theorem setMemory_ss (m : Mem) : (s.setMemory m).ss = s.ss := rfl
@[simp] theorem setMemory_ds0 (m : Mem) : (s.setMemory m).ds0 = s.ds0 := rfl
@[simp] theorem setMemory_pc (m : Mem) : (s.setMemory m).pc = s.pc := rfl
@[simp] theorem setMemory_psw (m : Mem) : (s.setMemory m).psw = s.psw := rfl
@[simp] theorem setMemory_memory (m : Mem) : (s.setMemory m).memory = m := rfl
@[simp] theorem setMemory_extended (m : Mem) : (s.setMemory m).extended = s.extended := rfl
@[simp] theorem setMemory_ports (m : Mem) : (s.setMemory m).ports = s.ports := rfl
@[simp] theorem setMemory_internal (m : Mem) : (s.setMemory m).internal = s.internal := rfl
@[simp] theorem setMemory_segOverride (m : Mem) : (s.setMemory m).segOverride = s.segOverride := rfl
@[simp] theorem setMemory_lastOpcode (m : Mem) : (s.setMemory m).lastOpcode = s.lastOpcode := rfl
@[simp] theorem setMemory_clock (m : Mem) : (s.setMemory m).clock = s.clock := rfl
@[simp] theorem setMemory_trace (m : Mem) : (s.setMemory m).trace = s.trace := rfl
@[simp] theorem setMemory_halted (m : Mem) : (s.setMemory m).halted = s.halted := rfl
@[simp] theorem setMemory_cfg (m : Mem) : (s.setMemory m).cfg = s.cfg := rfl

/-! ## `setExtended` -/

@[simp] theorem reg16_setExtended (m : Mem) (q : Reg16) : (s.setExtended m).reg16 q = s.reg16 q := by cases q <;> rfl
@[simp] theorem setExtended_aw (m : Mem) : (s.setExtended m).aw = s.aw := rfl
@[simp] theorem setExtended_cw (m : Mem) : (s.setExtended m).cw = s.cw := rfl
@[simp] theorem setExtended_dw (m : Mem) : (s.setExtended m).dw = s.dw := rfl
@[simp] theorem setExtended_bw (m : Mem) : (s.setExtended m).bw = s.bw := rfl
@[simp] theorem setExtended_sp (m : Mem) : (s.setExtended m).sp = s.sp := rfl
@[simp] theorem setExtended_bp (m : Mem) : (s.setExtended m).bp = s.bp := rfl
@[simp] theorem setExtended_ix (m : Mem) : (s.setExtended m).ix = s.ix := rfl
@[simp] theorem setExtended_iy (m : Mem) : (s.setExtended m).iy = s.iy := rfl
@[simp] theorem sreg_setExtended (m : Mem) (q : SReg) : (s.setExtended m).sreg q = s.sreg q := by cases q <;> rfl
@[simp] theorem setExtended_ds1 (m : Mem) : (s.setExtended m).ds1 = s.ds1 := rfl
@[simp] theorem setExtended_ps (m : Mem) : (s.setExtended m).ps = s.ps := rfl
@[simp] theorem setExtended_ss (m : Mem) : (s.setExtended m).ss = s.ss := rfl
@[simp] theorem setExtended_ds0 (m : Mem) : (s.setExtended m).ds0 = s.ds0 := rfl
@[simp] theorem setExtended_pc (m : Mem) : (s.setExtended m).pc = s.pc := rfl
@[simp] theorem setExtended_psw (m : Mem) : (s.setExtended m).psw = s.psw := rfl
@[simp] theorem setExtended_memory (m : Mem) : (s.setExtended m).memory = s.memory := rfl
@[simp] theorem setExtended_extended (m : Mem) : (s.setExtended m).extended = m := rfl
@[simp] theorem setExtended_ports (m : Mem) : (s.setExtended m).ports = s.ports := rfl
@[simp] theorem setExtended_internal (m : Mem) : (s.setExtended m).internal = s.internal := rfl
@[simp] theorem setExtended_segOverride (m : Mem) : (s.setExtended m).segOverride = s.segOverride := rfl
@[simp] theorem setExtended_lastOpcode (m : Mem) : (s.setExtended m).lastOpcode = s.lastOpcode := rfl
@[simp] theorem setExtended_clock (m : Mem) : (s.setExtended m).clock = s.clock := rfl
@[simp] theorem setExtended_trace (m : Mem) : (s.setExtended m).trace = s.trace := rfl
@[simp] theorem setExtended_halted (m : Mem) : (s.setExtended m).halted = s.halted := rfl
@[simp] theorem setExtended_cfg (m : Mem) : (s.setExtended m).cfg = s.cfg := rfl

/-! ## `setPorts` -/

@[simp] theorem reg16_setPorts (m : Mem) (q : Reg16) : (s.setPorts m).reg16 q = s.reg16 q := by cases q <;> rfl
@[simp] theorem setPorts_aw (m : Mem) : (s.setPorts m).aw = s.aw := rfl
@[simp] theorem setPorts_cw (m : Mem) : (s.setPorts m).cw = s.cw := rfl
@[simp] theorem setPorts_dw (m : Mem) : (s.setPorts m).dw = s.dw := rfl
@[simp] theorem setPorts_bw (m : Mem) : (s.setPorts m).bw = s.bw := rfl
@[simp] theorem setPorts_sp (m : Mem) : (s.setPorts m).sp = s.sp := rfl
@[simp] theorem setPorts_bp (m : Mem) : (s.setPorts m).bp = s.bp := rfl
@[simp] theorem setPorts_ix (m : Mem) : (s.setPorts m).ix = s.ix := rfl
@[simp] theorem setPorts_iy (m : Mem) : (s.setPorts m).iy = s.iy := rfl
@[simp] theorem sreg_setPorts (m : Mem) (q : SReg) : (s.setPorts m).sreg q = s.sreg q := by cases q <;> rfl
@[simp] theorem setPorts_ds1 (m : Mem) : (s.setPorts m).ds1 = s.ds1 := rfl
@[simp] theorem setPorts_ps (m : Mem) : (s.setPorts m).ps = s.ps := rfl
@[simp] theorem setPorts_ss (m : Mem) : (s.setPorts m).ss = s.ss := rfl
@[simp] theorem setPorts_ds0 (m : Mem) : (s.setPorts m).ds0 = s.ds0 := rfl
@[simp] theorem setPorts_pc (m : Mem) : (s.setPorts m).pc = s.pc := rfl
@[simp] theorem setPorts_psw (m : Mem) : (s.setPorts m).psw = s.psw := rfl
@[simp] theorem setPorts_memory (m : Mem) : (s.setPorts m).memory = s.memory := rfl
@[simp] theorem setPorts_extended (m : Mem) : (s.setPorts m).extended = s.extended := rfl
@[simp] theorem setPorts_ports (m : Mem) : (s.setPorts m).ports = m := rfl
@[simp] theorem setPorts_internal (m : Mem) : (s.setPorts m).internal = s.internal := rfl
@[simp] theorem setPorts_segOverride (m : Mem) : (s.setPorts m).segOverride = s.segOverride := rfl
@[simp] theorem setPorts_lastOpcode (m : Mem) : (s.setPorts m).lastOpcode = s.lastOpcode := rfl
@[simp] theorem setPorts_clock (m : Mem) : (s.setPorts m).clock = s.clock := rfl
@[simp] theorem setPorts_trace (m : Mem) : (s.setPorts m).trace = s.trace := rfl
@[simp] theorem setPorts_halted (m : Mem) : (s.setPorts m).halted = s.halted := rfl
@[simp] theorem setPorts_cfg (m : Mem) : (s.setPorts m).cfg = s.cfg := rfl

/-! ## `setSegOverride` -/

@[simp] theorem reg16_setSegOverride (o : Option SReg) (q : Reg16) : (s.setSegOverride o).reg16 q = s.reg16 q := by cases q <;> rfl
@[simp] theorem setSegOverride_aw (o : Option SReg) : (s.setSegOverride o).aw = s.aw := rfl
@[simp] theorem setSegOverride_cw (o : Option SReg) : (s.setSegOverride o).cw = s.cw := rfl
@[simp] theorem setSegOverride_dw (o : Option SReg) : (s.setSegOverride o).dw = s.dw := rfl
@[simp] theorem setSegOverride_bw (o : Option SReg) : (s.setSegOverride o).bw = s.bw := rfl
@[simp] theorem setSegOverride_sp (o : Option SReg) : (s.setSegOverride o).sp = s.sp := rfl
@[simp] theorem setSegOverride_bp (o : Option SReg) : (s.setSegOverride o).bp = s.bp := rfl
@[simp] theorem setSegOverride_ix (o : Option SReg) : (s.setSegOverride o).ix = s.ix := rfl
@[simp] theorem setSegOverride_iy (o : Option SReg) : (s.setSegOverride o).iy = s.iy := rfl
@[simp] theorem sreg_setSegOverride (o : Option SReg) (q : SReg) : (s.setSegOverride o).sreg q = s.sreg q := by cases q <;> rfl
@[simp] theorem setSegOverride_ds1 (o : Option SReg) : (s.setSegOverride o).ds1 = s.ds1 := rfl
@[simp] theorem setSegOverride_ps (o : Option SReg) : (s.setSegOverride o).ps = s.ps := rfl
@[simp] theorem setSegOverride_ss (o : Option SReg) : (s.setSegOverride o).ss = s.ss := rfl
@[simp] theorem setSegOverride_ds0 (o : Option SReg) : (s.setSegOverride o).ds0 = s.ds0 := rfl
@[simp] theorem setSegOverride_pc (o : Option SReg) : (s.setSegOverride o).pc = s.pc := rfl
@[simp] theorem setSegOverride_psw (o : Option SReg) : (s.setSegOverride o).psw = s.psw := rfl
@[simp] theorem setSegOverride_memory (o : Option SReg) : (s.setSegOverride o).memory = s.memory := rfl
@[simp] theorem setSegOverride_extended (o : Option SReg) : (s.setSegOverride o).extended = s.extended := rfl
@[simp] theorem setSegOverride_ports (o : Option SReg) : (s.setSegOverride o).ports = s.ports := rfl
@[simp] theorem setSegOverride_internal (o : Option SReg) : (s.setSegOverride o).internal = s.internal := rfl
@[simp] theorem setSegOverride_segOverride (o : Option SReg) : (s.setSegOverride o).segOverride = o := rfl
@[simp] theorem setSegOverride_lastOpcode (o : Option SReg) : (s.setSegOverride o).lastOpcode = s.lastOpcode := rfl
@[simp] theorem setSegOverride_clock (o : Option SReg) : (s.setSegOverride o).clock = s.clock := rfl
@[simp] theorem setSegOverride_trace (o : Option SReg) : (s.setSegOverride o).trace = s.trace := rfl
@[simp] theorem setSegOverride_halted (o : Option SReg) : (s.setSegOverride o).halted = s.halted := rfl
@[simp] theorem setSegOverride_cfg (o : Option SReg) : (s.setSegOverride o).cfg = s.cfg := rfl

/-! ## `setLastOpcode` -/

@[simp] theorem reg16_setLastOpcode (b : Byte) (q : Reg16) : (s.setLastOpcode b).reg16 q = s.reg16 q := by cases q <;> rfl
@[simp] theorem setLastOpcode_aw (b : Byte) : (s.setLastOpcode b).aw = s.aw := rfl
@[simp] theorem setLastOpcode_cw (b : Byte) : (s.setLastOpcode b).cw = s.cw := rfl
@[simp] theorem setLastOpcode_dw (b : Byte) : (s.setLastOpcode b).dw = s.dw := rfl
@[simp] theorem setLastOpcode_bw (b : Byte) : (s.setLastOpcode b).bw = s.bw := rfl
@[simp] theorem setLastOpcode_sp (b : Byte) : (s.setLastOpcode b).sp = s.sp := rfl
@[simp] theorem setLastOpcode_bp (b : Byte) : (s.setLastOpcode b).bp = s.bp := rfl
@[simp] theorem setLastOpcode_ix (b : Byte) : (s.setLastOpcode b).ix = s.ix := rfl
@[simp] theorem setLastOpcode_iy (b : Byte) : (s.setLastOpcode b).iy = s.iy := rfl
@[simp] theorem sreg_setLastOpcode (b : Byte) (q : SReg) : (s.setLastOpcode b).sreg q = s.sreg q := by cases q <;> rfl
@[simp] theorem setLastOpcode_ds1 (b : Byte) : (s.setLastOpcode b).ds1 = s.ds1 := rfl
@[simp] theorem setLastOpcode_ps (b : Byte) : (s.setLastOpcode b).ps = s.ps := rfl
@[simp] theorem setLastOpcode_ss (b : Byte) : (s.setLastOpcode b).ss = s.ss := rfl
@[simp] theorem setLastOpcode_ds0 (b : Byte) : (s.setLastOpcode b).ds0 = s.ds0 := rfl
@[simp] theorem setLastOpcode_pc (b : Byte) : (s.setLastOpcode b).pc = s.pc := rfl
@[simp] theorem setLastOpcode_psw (b : Byte) : (s.setLastOpcode b).psw = s.psw := rfl
@[simp] theorem setLastOpcode_memory (b : Byte) : (s.setLastOpcode b).memory = s.memory := rfl
@[simp] theorem setLastOpcode_extended (b : Byte) : (s.setLastOpcode b).extended = s.extended := rfl
@[simp] theorem setLastOpcode_ports (b : Byte) : (s.setLastOpcode b).ports = s.ports := rfl
@[simp] theorem setLastOpcode_internal (b : Byte) : (s.setLastOpcode b).internal = s.internal := rfl
@[simp] theorem setLastOpcode_segOverride (b : Byte) : (s.setLastOpcode b).segOverride = s.segOverride := rfl
@[simp] theorem setLastOpcode_lastOpcode (b : Byte) : (s.setLastOpcode b).lastOpcode = b := rfl
@[simp] theorem setLastOpcode_clock (b : Byte) : (s.setLastOpcode b).clock = s.clock := rfl
@[simp] theorem setLastOpcode_trace (b : Byte) : (s.setLastOpcode b).trace = s.trace := rfl
@[simp] theorem setLastOpcode_halted (b : Byte) : (s.setLastOpcode b).halted = s.halted := rfl
@[simp] theorem setLastOpcode_cfg (b : Byte) : (s.setLastOpcode b).cfg = s.cfg := rfl

/-! ## `setClock` -/

@[simp] theorem reg16_setClock (n : Nat) (q : Reg16) : (s.setClock n).reg16 q = s.reg16 q := by cases q <;> rfl
@[simp] theorem setClock_aw (n : Nat) : (s.setClock n).aw = s.aw := rfl
@[simp] theorem setClock_cw (n : Nat) : (s.setClock n).cw = s.cw := rfl
@[simp] theorem setClock_dw (n : Nat) : (s.setClock n).dw = s.dw := rfl
@[simp] theorem setClock_bw (n : Nat) : (s.setClock n).bw = s.bw := rfl
@[simp] theorem setClock_sp (n : Nat) : (s.setClock n).sp = s.sp := rfl
@[simp] theorem setClock_bp (n : Nat) : (s.setClock n).bp = s.bp := rfl
@[simp] theorem setClock_ix (n : Nat) : (s.setClock n).ix = s.ix := rfl
@[simp] theorem setClock_iy (n : Nat) : (s.setClock n).iy = s.iy := rfl
@[simp] theorem sreg_setClock (n : Nat) (q : SReg) : (s.setClock n).sreg q = s.sreg q := by cases q <;> rfl
@[simp] theorem setClock_ds1 (n : Nat) : (s.setClock n).ds1 = s.ds1 := rfl
@[simp] theorem setClock_ps (n : Nat) : (s.setClock n).ps = s.ps := rfl
@[simp] theorem setClock_ss (n : Nat) : (s.setClock n).ss = s.ss := rfl
@[simp] theorem setClock_ds0 (n : Nat) : (s.setClock n).ds0 = s.ds0 := rfl
@[simp] theorem setClock_pc (n : Nat) : (s.setClock n).pc = s.pc := rfl
@[simp] theorem setClock_psw (n : Nat) : (s.setClock n).psw = s.psw := rfl
@[simp] theorem setClock_memory (n : Nat) : (s.setClock n).memory = s.memory := rfl
@[simp] theorem setClock_extended (n : Nat) : (s.setClock n).extended = s.extended := rfl
@[simp] theorem setClock_ports (n : Nat) : (s.setClock n).ports = s.ports := rfl
@[simp] theorem setClock_internal (n : Nat) : (s.setClock n).internal = s.internal := rfl
@[simp] theorem setClock_segOverride (n : Nat) : (s.setClock n).segOverride = s.segOverride := rfl
@[simp] theorem setClock_lastOpcode (n : Nat) : (s.setClock n).lastOpcode = s.lastOpcode := rfl
@[simp] theorem setClock_clock (n : Nat) : (s.setClock n).clock = n := rfl
@[simp] theorem setClock_trace (n : Nat) : (s.setClock n).trace = s.trace := rfl
@[simp] theorem setClock_halted (n : Nat) : (s.setClock n).halted = s.halted := rfl
@[simp] theorem setClock_cfg (n : Nat) : (s.setClock n).cfg = s.cfg := rfl

/-! ## `setHalted` -/

@[simp] theorem reg16_setHalted (h : Option Fault) (q : Reg16) : (s.setHalted h).reg16 q = s.reg16 q := by cases q <;> rfl
@[simp] theorem setHalted_aw (h : Option Fault) : (s.setHalted h).aw = s.aw := rfl
@[simp] theorem setHalted_cw (h : Option Fault) : (s.setHalted h).cw = s.cw := rfl
@[simp] theorem setHalted_dw (h : Option Fault) : (s.setHalted h).dw = s.dw := rfl
@[simp] theorem setHalted_bw (h : Option Fault) : (s.setHalted h).bw = s.bw := rfl
@[simp] theorem setHalted_sp (h : Option Fault) : (s.setHalted h).sp = s.sp := rfl
@[simp] theorem setHalted_bp (h : Option Fault) : (s.setHalted h).bp = s.bp := rfl
@[simp] theorem setHalted_ix (h : Option Fault) : (s.setHalted h).ix = s.ix := rfl
@[simp] theorem setHalted_iy (h : Option Fault) : (s.setHalted h).iy = s.iy := rfl
@[simp] theorem sreg_setHalted (h : Option Fault) (q : SReg) : (s.setHalted h).sreg q = s.sreg q := by cases q <;> rfl
@[simp] theorem setHalted_ds1 (h : Option Fault) : (s.setHalted h).ds1 = s.ds1 := rfl
@[simp] theorem setHalted_ps (h : Option Fault) : (s.setHalted h).ps = s.ps := rfl
@[simp] theorem setHalted_ss (h : Option Fault) : (s.setHalted h).ss = s.ss := rfl
@[simp] theorem setHalted_ds0 (h : Option Fault) : (s.setHalted h).ds0 = s.ds0 := rfl
@[simp] theorem setHalted_pc (h : Option Fault) : (s.setHalted h).pc = s.pc := rfl
@[simp] theorem setHalted_psw (h : Option Fault) : (s.setHalted h).psw = s.psw := rfl
@[simp] theorem setHalted_memory (h : Option Fault) : (s.setHalted h).memory = s.memory := rfl
@[simp] theorem setHalted_extended (h : Option Fault) : (s.setHalted h).extended = s.extended := rfl
@[simp] theorem setHalted_ports (h : Option Fault) : (s.setHalted h).ports = s.ports := rfl
@[simp] theorem setHalted_internal (h : Option Fault) : (s.setHalted h).internal = s.internal := rfl
@[simp] theorem setHalted_segOverride (h : Option Fault) : (s.setHalted h).segOverride = s.segOverride := rfl
@[simp] theorem setHalted_lastOpcode (h : Option Fault) : (s.setHalted h).lastOpcode = s.lastOpcode := rfl
@[simp] theorem setHalted_clock (h : Option Fault) : (s.setHalted h).clock = s.clock := rfl
@[simp] theorem setHalted_trace (h : Option Fault) : (s.setHalted h).trace = s.trace := rfl
@[simp] theorem setHalted_halted (h : Option Fault) : (s.setHalted h).halted = h := rfl
@[simp] theorem setHalted_cfg (h : Option Fault) : (s.setHalted h).cfg = s.cfg := rfl

/-! ## `record` -/

@[simp] theorem reg16_record (p : Word) (v : Byte) (q : Reg16) : (s.record p v).reg16 q = s.reg16 q := by cases q <;> rfl
@[simp] theorem record_aw (p : Word) (v : Byte) : (s.record p v).aw = s.aw := rfl
@[simp] theorem record_cw (p : Word) (v : Byte) : (s.record p v).cw = s.cw := rfl
@[simp] theorem record_dw (p : Word) (v : Byte) : (s.record p v).dw = s.dw := rfl
@[simp] theorem record_bw (p : Word) (v : Byte) : (s.record p v).bw = s.bw := rfl
@[simp] theorem record_sp (p : Word) (v : Byte) : (s.record p v).sp = s.sp := rfl
@[simp] theorem record_bp (p : Word) (v : Byte) : (s.record p v).bp = s.bp := rfl
@[simp] theorem record_ix (p : Word) (v : Byte) : (s.record p v).ix = s.ix := rfl
@[simp] theorem record_iy (p : Word) (v : Byte) : (s.record p v).iy = s.iy := rfl
@[simp] theorem sreg_record (p : Word) (v : Byte) (q : SReg) : (s.record p v).sreg q = s.sreg q := by cases q <;> rfl
@[simp] theorem record_ds1 (p : Word) (v : Byte) : (s.record p v).ds1 = s.ds1 := rfl
@[simp] theorem record_ps (p : Word) (v : Byte) : (s.record p v).ps = s.ps := rfl
@[simp] theorem record_ss (p : Word) (v : Byte) : (s.record p v).ss = s.ss := rfl
@[simp] theorem record_ds0 (p : Word) (v : Byte) : (s.record p v).ds0 = s.ds0 := rfl
@[simp] theorem record_pc (p : Word) (v : Byte) : (s.record p v).pc = s.pc := rfl
@[simp] theorem record_psw (p : Word) (v : Byte) : (s.record p v).psw = s.psw := rfl
@[simp] theorem record_memory (p : Word) (v : Byte) : (s.record p v).memory = s.memory := rfl
@[simp] theorem record_extended (p : Word) (v : Byte) : (s.record p v).extended = s.extended := rfl
@[simp] theorem record_ports (p : Word) (v : Byte) : (s.record p v).ports = s.ports := rfl
@[simp] theorem record_internal (p : Word) (v : Byte) : (s.record p v).internal = s.internal := rfl
@[simp] theorem record_segOverride (p : Word) (v : Byte) : (s.record p v).segOverride = s.segOverride := rfl
@[simp] theorem record_lastOpcode (p : Word) (v : Byte) : (s.record p v).lastOpcode = s.lastOpcode := rfl
@[simp] theorem record_clock (p : Word) (v : Byte) : (s.record p v).clock = s.clock := rfl
@[simp] theorem record_trace (p : Word) (v : Byte) : (s.record p v).trace = s.trace ++ [(p, v)] := rfl
@[simp] theorem record_halted (p : Word) (v : Byte) : (s.record p v).halted = s.halted := rfl
@[simp] theorem record_cfg (p : Word) (v : Byte) : (s.record p v).cfg = s.cfg := rfl

/-! ## Two states that agree through the accessors are equal -/

@[ext] theorem ext_views {s t : State} (reg16 : ∀ r, s.reg16 r = t.reg16 r) (sreg : ∀ r, s.sreg r = t.sreg r)
    (pc : s.pc = t.pc) (psw : s.psw = t.psw) (memory : s.memory = t.memory) (extended : s.extended = t.extended)
    (ports : s.ports = t.ports) (internal : s.internal = t.internal) (segOverride : s.segOverride = t.segOverride)
    (lastOpcode : s.lastOpcode = t.lastOpcode) (clock : s.clock = t.clock) (trace : s.trace = t.trace)
    (halted : s.halted = t.halted) (cfg : s.cfg = t.cfg) : s = t := by
  have a := reg16 .aw; have b := reg16 .cw; have c := reg16 .dw; have d := reg16 .bw
  have e := reg16 .sp; have f := reg16 .bp; have g := reg16 .ix; have h := reg16 .iy
  have i := sreg .ds1; have j := sreg .ps; have k := sreg .ss; have l := sreg .ds0
  cases s; cases t; simp_all

end Sys2Proof.Machine.State
end

