-- ==== Sys2Proof/Laws/Mem.lean ====
section
/-! SUPPORT. Byte arrays: reading after writing, and that writing keeps the canonical form and the bounds
(10_state.md R22 to R25, R31). -/

namespace Sys2Proof.Machine.Mem

/-- Nothing is listed below `lo`, so it reads as zero there. -/
theorem read_below {m : Mem} {lo a : Nat} (h : risesFrom lo m = true) (ha : a < lo) : read m a = 0 := by
  induction m generalizing lo with
  | nil => rfl
  | cons c m ih =>
    obtain ⟨k, v⟩ := c
    simp only [risesFrom, Bool.and_eq_true, decide_eq_true_eq] at h
    rw [read, if_neg (by omega), ih h.2 (by omega)]

theorem risesFrom_mono {m : Mem} {lo hi : Nat} (h : risesFrom hi m = true) (hl : lo ≤ hi) : risesFrom lo m = true := by
  cases m with
  | nil => rfl
  | cons c m =>
    obtain ⟨k, v⟩ := c
    simp only [risesFrom, Bool.and_eq_true, decide_eq_true_eq] at h ⊢
    exact ⟨⟨by omega, h.1.2⟩, h.2⟩

/-- A write leaves every other address alone, canonical or not. -/
theorem read_write_other (m : Mem) {a b : Nat} (v : Byte) (h : b ≠ a) : read (write m a v) b = read m b := by
  induction m with
  | nil =>
    by_cases hv : v = 0#8
    · simp [write, hv]
    · simp [write, hv, read, h.symm]
  | cons c m ih =>
    obtain ⟨k, w⟩ := c
    by_cases h1 : a < k
    · by_cases hv : v = 0#8
      · simp [write, h1, hv]
      · simp [write, h1, hv, read, h.symm]
    · by_cases h2 : a = k
      · by_cases hv : v = 0#8
        · subst h2
          simp [write, hv, read, h.symm]
        · subst h2
          simp [write, hv, read, h.symm]
      · simp [write, h1, h2, read, ih]

/-- In canonical form a read after a write to the same address gives the byte written. -/
theorem read_write_same {m : Mem} {lo a : Nat} (v : Byte) (h : risesFrom lo m = true) : read (write m a v) a = v := by
  induction m generalizing lo with
  | nil =>
    by_cases hv : v = 0#8 <;> simp [write, hv, read]
  | cons c m ih =>
    obtain ⟨k, w⟩ := c
    simp only [risesFrom, Bool.and_eq_true, decide_eq_true_eq] at h
    by_cases h1 : a < k
    · by_cases hv : v = 0#8
      · have := read_below (risesFrom_mono h.2 (Nat.le_succ k)) h1
        simp [write, h1, hv, read, this, show k ≠ a by omega]
      · simp [write, h1, hv, read]
    · by_cases h2 : a = k
      · subst h2
        by_cases hv : v = 0#8
        · simp only [write, hv, if_true, lt_irrefl, if_false]
          exact read_below h.2 (by omega)
        · simp [write, hv, read]
      · simp only [write, h1, h2, if_false, read]
        rw [if_neg (fun hk => h2 hk.symm), ih h.2]

/-- Both together. -/
theorem read_write {m : Mem} (h : wf m = true) (a b : Nat) (v : Byte) :
    read (write m a v) b = if b = a then v else read m b := by
  by_cases hb : b = a
  · rw [if_pos hb, hb, read_write_same v h]
  · rw [if_neg hb, read_write_other m v hb]

theorem write_risesFrom {m : Mem} {lo a : Nat} (v : Byte) (h : risesFrom lo m = true) (ha : lo ≤ a) :
    risesFrom lo (write m a v) = true := by
  induction m generalizing lo with
  | nil =>
    by_cases hv : v = 0#8 <;> simp [write, hv, risesFrom, ha]
  | cons c m ih =>
    obtain ⟨k, w⟩ := c
    simp only [risesFrom, Bool.and_eq_true, decide_eq_true_eq, bne_iff_ne, ne_eq, BitVec.ofNat_eq_ofNat] at h
    by_cases h1 : a < k
    · by_cases hv : v = 0#8
      · simp [write, h1, hv, risesFrom, h]
      · simp [write, h1, hv, risesFrom, ha, h, Nat.succ_le_of_lt h1]
    · by_cases h2 : a = k
      · subst h2
        by_cases hv : v = 0#8
        · simp only [write, hv, if_true, lt_irrefl, if_false]
          exact risesFrom_mono h.2 (by omega)
        · simp [write, hv, risesFrom, ha, h]
      · simp only [write, h1, h2, if_false, risesFrom, Bool.and_eq_true, decide_eq_true_eq, bne_iff_ne, ne_eq]
        exact ⟨h.1, ih h.2 (by omega)⟩

/-- Writing keeps the canonical form. -/
theorem wf_write {m : Mem} (a : Nat) (v : Byte) (h : wf m = true) : wf (write m a v) = true :=
  write_risesFrom v h (Nat.zero_le a)

theorem below_write {m : Mem} {size a : Nat} (v : Byte) (h : below size m = true) (ha : a < size) :
    below size (write m a v) = true := by
  unfold below at *
  induction m with
  | nil =>
    by_cases hv : v = 0#8 <;> simp [write, hv, ha]
  | cons c m ih =>
    obtain ⟨k, w⟩ := c
    simp only [List.all_cons, Bool.and_eq_true, decide_eq_true_eq] at h
    by_cases h1 : a < k
    · by_cases hv : v = 0#8
      · simp [write, h1, hv]; simpa using h
      · simp [write, h1, hv, ha]; simpa using h
    · by_cases h2 : a = k
      · subst h2
        by_cases hv : v = 0#8
        · simp [write, hv]; simpa using h.2
        · simp [write, hv, ha]; simpa using h.2
      · simp only [write, h1, h2, if_false, List.all_cons, Bool.and_eq_true, decide_eq_true_eq]
        exact ⟨h.1, ih h.2⟩

/-- Outside its bounds an array reads as zero. -/
theorem read_of_below {m : Mem} {size a : Nat} (h : below size m = true) (ha : size ≤ a) : read m a = 0 := by
  unfold below at h
  induction m with
  | nil => rfl
  | cons c m ih =>
    obtain ⟨k, w⟩ := c
    simp only [List.all_cons, Bool.and_eq_true, decide_eq_true_eq] at h
    rw [read, if_neg (by omega), ih h.2]

/-- Two canonical arrays that read alike are equal. -/
theorem ext_read {m n : Mem} {lo : Nat} (hm : risesFrom lo m = true) (hn : risesFrom lo n = true)
    (h : ∀ a, read m a = read n a) : m = n := by
  induction m generalizing lo n with
  | nil =>
    cases n with
    | nil => rfl
    | cons d n =>
      obtain ⟨j, w⟩ := d
      simp only [risesFrom, Bool.and_eq_true, decide_eq_true_eq, bne_iff_ne, ne_eq] at hn
      have := h j
      simp only [read, if_true] at this
      exact absurd this.symm hn.1.2
  | cons c m ih =>
    obtain ⟨k, v⟩ := c
    have hm' := hm
    simp only [risesFrom, Bool.and_eq_true, decide_eq_true_eq, bne_iff_ne, ne_eq] at hm
    cases n with
    | nil =>
      have := h k
      simp only [read, if_true] at this
      exact absurd this hm.1.2
    | cons d n =>
      obtain ⟨j, w⟩ := d
      have hn' := hn
      simp only [risesFrom, Bool.and_eq_true, decide_eq_true_eq, bne_iff_ne, ne_eq] at hn
      have hk := h k
      have hj := h j
      simp only [read, if_true] at hk hj
      have hkj : k = j := by
        rcases Nat.lt_trichotomy k j with hlt | heq | hgt
        · rw [if_neg (by omega), read_below hn.2 (by omega)] at hk
          exact absurd hk hm.1.2
        · exact heq
        · rw [if_neg (by omega), read_below hm.2 (by omega)] at hj
          exact absurd hj.symm hn.1.2
      subst hkj
      simp only [if_true] at hk
      subst hk
      congr 1
      refine ih hm.2 hn.2 fun a => ?_
      by_cases ha : k = a
      · subst ha
        rw [read_below hm.2 (by omega), read_below hn.2 (by omega)]
      · have := h a
        simpa only [read, if_neg ha] using this

/-! ## The image (70_reset_and_hazards.md R330) -/

theorem ofBytes_risesFrom (a : Nat) (bs : List Byte) : risesFrom a (ofBytes a bs) = true := by
  induction bs generalizing a with
  | nil => rfl
  | cons b bs ih =>
    unfold ofBytes
    split
    · exact risesFrom_mono (ih (a + 1)) (by omega)
    · next hb => simpa [risesFrom, ih (a + 1)] using hb

theorem ofBytes_wf (a : Nat) (bs : List Byte) : wf (ofBytes a bs) = true :=
  risesFrom_mono (ofBytes_risesFrom a bs) (Nat.zero_le a)

theorem ofBytes_below {size : Nat} (a : Nat) (bs : List Byte) (h : a + bs.length ≤ size) :
    below size (ofBytes a bs) = true := by
  unfold below
  induction bs generalizing a with
  | nil => rfl
  | cons b bs ih =>
    simp only [List.length_cons] at h
    unfold ofBytes
    split
    · exact ih (a + 1) (by omega)
    · simp only [List.all_cons, Bool.and_eq_true, decide_eq_true_eq]
      exact ⟨by omega, ih (a + 1) (by omega)⟩

/-- The `i`-th byte of the image stands at `a + i`; beyond the image the array reads as zero. -/
theorem read_ofBytes (a : Nat) (bs : List Byte) (i : Nat) : read (ofBytes a bs) (a + i) = bs.getD i 0 := by
  induction bs generalizing a i with
  | nil => rfl
  | cons b bs ih =>
    cases i with
    | zero =>
      unfold ofBytes
      split
      · next hb =>
        rw [read_below (ofBytes_risesFrom (a + 1) bs) (by omega)]
        simp [hb]
      · simp [read]
    | succ i =>
      have := ih (a + 1) i
      rw [show a + 1 + i = a + (i + 1) by omega] at this
      unfold ofBytes
      split
      · simpa using this
      · simp only [read]
        rw [if_neg (by omega)]
        simpa using this

end Sys2Proof.Machine.Mem
end

