-- ==== Sys2Proof/Laws/Views.lean ====
section
/-! SUPPORT. The derived readings of the state (byte registers, ports, the bank select, memory, the data segment, the flags)
under the updates they do not depend on. -/

namespace Sys2Proof.Machine.State

variable (s : State)

/-! ## `reg8` -/

@[simp] theorem reg8_setSReg (r : SReg) (v : Word) (q : Reg8) : (s.setSReg r v).reg8 q = s.reg8 q := by simp [State.reg8]
@[simp] theorem reg8_setPc (v : Word) (q : Reg8) : (s.setPc v).reg8 q = s.reg8 q := by simp [State.reg8]
@[simp] theorem reg8_setPsw (v : Word) (q : Reg8) : (s.setPsw v).reg8 q = s.reg8 q := by simp [State.reg8]
@[simp] theorem reg8_setMemory (m : Mem) (q : Reg8) : (s.setMemory m).reg8 q = s.reg8 q := by simp [State.reg8]
@[simp] theorem reg8_setExtended (m : Mem) (q : Reg8) : (s.setExtended m).reg8 q = s.reg8 q := by simp [State.reg8]
@[simp] theorem reg8_setPorts (m : Mem) (q : Reg8) : (s.setPorts m).reg8 q = s.reg8 q := by simp [State.reg8]
@[simp] theorem reg8_setSegOverride (o : Option SReg) (q : Reg8) : (s.setSegOverride o).reg8 q = s.reg8 q := by simp [State.reg8]
@[simp] theorem reg8_setLastOpcode (b : Byte) (q : Reg8) : (s.setLastOpcode b).reg8 q = s.reg8 q := by simp [State.reg8]
@[simp] theorem reg8_setClock (n : Nat) (q : Reg8) : (s.setClock n).reg8 q = s.reg8 q := by simp [State.reg8]
@[simp] theorem reg8_setHalted (h : Option Fault) (q : Reg8) : (s.setHalted h).reg8 q = s.reg8 q := by simp [State.reg8]
@[simp] theorem reg8_record (p : Word) (v : Byte) (q : Reg8) : (s.record p v).reg8 q = s.reg8 q := by simp [State.reg8]

/-! ## `portRead8` -/

@[simp] theorem portRead8_setReg16 (r : Reg16) (v : Word) (q : Word) : (s.setReg16 r v).portRead8 q = s.portRead8 q := by simp [State.portRead8]
@[simp] theorem portRead8_setSReg (r : SReg) (v : Word) (q : Word) : (s.setSReg r v).portRead8 q = s.portRead8 q := by simp [State.portRead8]
@[simp] theorem portRead8_setPc (v : Word) (q : Word) : (s.setPc v).portRead8 q = s.portRead8 q := by simp [State.portRead8]
@[simp] theorem portRead8_setPsw (v : Word) (q : Word) : (s.setPsw v).portRead8 q = s.portRead8 q := by simp [State.portRead8]
@[simp] theorem portRead8_setMemory (m : Mem) (q : Word) : (s.setMemory m).portRead8 q = s.portRead8 q := by simp [State.portRead8]
@[simp] theorem portRead8_setExtended (m : Mem) (q : Word) : (s.setExtended m).portRead8 q = s.portRead8 q := by simp [State.portRead8]
@[simp] theorem portRead8_setSegOverride (o : Option SReg) (q : Word) : (s.setSegOverride o).portRead8 q = s.portRead8 q := by simp [State.portRead8]
@[simp] theorem portRead8_setLastOpcode (b : Byte) (q : Word) : (s.setLastOpcode b).portRead8 q = s.portRead8 q := by simp [State.portRead8]
@[simp] theorem portRead8_setClock (n : Nat) (q : Word) : (s.setClock n).portRead8 q = s.portRead8 q := by simp [State.portRead8]
@[simp] theorem portRead8_setHalted (h : Option Fault) (q : Word) : (s.setHalted h).portRead8 q = s.portRead8 q := by simp [State.portRead8]
@[simp] theorem portRead8_record (p : Word) (v : Byte) (q : Word) : (s.record p v).portRead8 q = s.portRead8 q := by simp [State.portRead8]

/-! ## `portRead16` -/

@[simp] theorem portRead16_setReg16 (r : Reg16) (v : Word) (q : Word) : (s.setReg16 r v).portRead16 q = s.portRead16 q := by simp [State.portRead16]
@[simp] theorem portRead16_setSReg (r : SReg) (v : Word) (q : Word) : (s.setSReg r v).portRead16 q = s.portRead16 q := by simp [State.portRead16]
@[simp] theorem portRead16_setPc (v : Word) (q : Word) : (s.setPc v).portRead16 q = s.portRead16 q := by simp [State.portRead16]
@[simp] theorem portRead16_setPsw (v : Word) (q : Word) : (s.setPsw v).portRead16 q = s.portRead16 q := by simp [State.portRead16]
@[simp] theorem portRead16_setMemory (m : Mem) (q : Word) : (s.setMemory m).portRead16 q = s.portRead16 q := by simp [State.portRead16]
@[simp] theorem portRead16_setExtended (m : Mem) (q : Word) : (s.setExtended m).portRead16 q = s.portRead16 q := by simp [State.portRead16]
@[simp] theorem portRead16_setSegOverride (o : Option SReg) (q : Word) : (s.setSegOverride o).portRead16 q = s.portRead16 q := by simp [State.portRead16]
@[simp] theorem portRead16_setLastOpcode (b : Byte) (q : Word) : (s.setLastOpcode b).portRead16 q = s.portRead16 q := by simp [State.portRead16]
@[simp] theorem portRead16_setClock (n : Nat) (q : Word) : (s.setClock n).portRead16 q = s.portRead16 q := by simp [State.portRead16]
@[simp] theorem portRead16_setHalted (h : Option Fault) (q : Word) : (s.setHalted h).portRead16 q = s.portRead16 q := by simp [State.portRead16]
@[simp] theorem portRead16_record (p : Word) (v : Byte) (q : Word) : (s.record p v).portRead16 q = s.portRead16 q := by simp [State.portRead16]

/-! ## `xa` -/

@[simp] theorem xa_setReg16 (r : Reg16) (v : Word) : (s.setReg16 r v).xa = s.xa := by simp [State.xa]
@[simp] theorem xa_setSReg (r : SReg) (v : Word) : (s.setSReg r v).xa = s.xa := by simp [State.xa]
@[simp] theorem xa_setPc (v : Word) : (s.setPc v).xa = s.xa := by simp [State.xa]
@[simp] theorem xa_setPsw (v : Word) : (s.setPsw v).xa = s.xa := by simp [State.xa]
@[simp] theorem xa_setMemory (m : Mem) : (s.setMemory m).xa = s.xa := by simp [State.xa]
@[simp] theorem xa_setExtended (m : Mem) : (s.setExtended m).xa = s.xa := by simp [State.xa]
@[simp] theorem xa_setSegOverride (o : Option SReg) : (s.setSegOverride o).xa = s.xa := by simp [State.xa]
@[simp] theorem xa_setLastOpcode (b : Byte) : (s.setLastOpcode b).xa = s.xa := by simp [State.xa]
@[simp] theorem xa_setClock (n : Nat) : (s.setClock n).xa = s.xa := by simp [State.xa]
@[simp] theorem xa_setHalted (h : Option Fault) : (s.setHalted h).xa = s.xa := by simp [State.xa]
@[simp] theorem xa_record (p : Word) (v : Byte) : (s.record p v).xa = s.xa := by simp [State.xa]

/-! ## `selectsExtended` -/

@[simp] theorem selectsExtended_setReg16 (r : Reg16) (v : Word) (a : Nat) : (s.setReg16 r v).selectsExtended a = s.selectsExtended a := by simp [State.selectsExtended]
@[simp] theorem selectsExtended_setSReg (r : SReg) (v : Word) (a : Nat) : (s.setSReg r v).selectsExtended a = s.selectsExtended a := by simp [State.selectsExtended]
@[simp] theorem selectsExtended_setPc (v : Word) (a : Nat) : (s.setPc v).selectsExtended a = s.selectsExtended a := by simp [State.selectsExtended]
@[simp] theorem selectsExtended_setPsw (v : Word) (a : Nat) : (s.setPsw v).selectsExtended a = s.selectsExtended a := by simp [State.selectsExtended]
@[simp] theorem selectsExtended_setMemory (m : Mem) (a : Nat) : (s.setMemory m).selectsExtended a = s.selectsExtended a := by simp [State.selectsExtended]
@[simp] theorem selectsExtended_setExtended (m : Mem) (a : Nat) : (s.setExtended m).selectsExtended a = s.selectsExtended a := by simp [State.selectsExtended]
@[simp] theorem selectsExtended_setSegOverride (o : Option SReg) (a : Nat) : (s.setSegOverride o).selectsExtended a = s.selectsExtended a := by simp [State.selectsExtended]
@[simp] theorem selectsExtended_setLastOpcode (b : Byte) (a : Nat) : (s.setLastOpcode b).selectsExtended a = s.selectsExtended a := by simp [State.selectsExtended]
@[simp] theorem selectsExtended_setClock (n : Nat) (a : Nat) : (s.setClock n).selectsExtended a = s.selectsExtended a := by simp [State.selectsExtended]
@[simp] theorem selectsExtended_setHalted (h : Option Fault) (a : Nat) : (s.setHalted h).selectsExtended a = s.selectsExtended a := by simp [State.selectsExtended]
@[simp] theorem selectsExtended_record (p : Word) (v : Byte) (a : Nat) : (s.record p v).selectsExtended a = s.selectsExtended a := by simp [State.selectsExtended]

/-! ## `cellAt` -/

@[simp] theorem cellAt_setReg16 (r : Reg16) (v : Word) (seg off : Word) : (s.setReg16 r v).cellAt seg off = s.cellAt seg off := by simp [State.cellAt]
@[simp] theorem cellAt_setSReg (r : SReg) (v : Word) (seg off : Word) : (s.setSReg r v).cellAt seg off = s.cellAt seg off := by simp [State.cellAt]
@[simp] theorem cellAt_setPc (v : Word) (seg off : Word) : (s.setPc v).cellAt seg off = s.cellAt seg off := by simp [State.cellAt]
@[simp] theorem cellAt_setPsw (v : Word) (seg off : Word) : (s.setPsw v).cellAt seg off = s.cellAt seg off := by simp [State.cellAt]
@[simp] theorem cellAt_setMemory (m : Mem) (seg off : Word) : (s.setMemory m).cellAt seg off = s.cellAt seg off := by simp [State.cellAt]
@[simp] theorem cellAt_setExtended (m : Mem) (seg off : Word) : (s.setExtended m).cellAt seg off = s.cellAt seg off := by simp [State.cellAt]
@[simp] theorem cellAt_setSegOverride (o : Option SReg) (seg off : Word) : (s.setSegOverride o).cellAt seg off = s.cellAt seg off := by simp [State.cellAt]
@[simp] theorem cellAt_setLastOpcode (b : Byte) (seg off : Word) : (s.setLastOpcode b).cellAt seg off = s.cellAt seg off := by simp [State.cellAt]
@[simp] theorem cellAt_setClock (n : Nat) (seg off : Word) : (s.setClock n).cellAt seg off = s.cellAt seg off := by simp [State.cellAt]
@[simp] theorem cellAt_setHalted (h : Option Fault) (seg off : Word) : (s.setHalted h).cellAt seg off = s.cellAt seg off := by simp [State.cellAt]
@[simp] theorem cellAt_record (p : Word) (v : Byte) (seg off : Word) : (s.record p v).cellAt seg off = s.cellAt seg off := by simp [State.cellAt]

/-! ## `wordCells` -/

@[simp] theorem wordCells_setReg16 (r : Reg16) (v : Word) (seg off : Word) : (s.setReg16 r v).wordCells seg off = s.wordCells seg off := by simp [State.wordCells]
@[simp] theorem wordCells_setSReg (r : SReg) (v : Word) (seg off : Word) : (s.setSReg r v).wordCells seg off = s.wordCells seg off := by simp [State.wordCells]
@[simp] theorem wordCells_setPc (v : Word) (seg off : Word) : (s.setPc v).wordCells seg off = s.wordCells seg off := by simp [State.wordCells]
@[simp] theorem wordCells_setPsw (v : Word) (seg off : Word) : (s.setPsw v).wordCells seg off = s.wordCells seg off := by simp [State.wordCells]
@[simp] theorem wordCells_setMemory (m : Mem) (seg off : Word) : (s.setMemory m).wordCells seg off = s.wordCells seg off := by simp [State.wordCells]
@[simp] theorem wordCells_setExtended (m : Mem) (seg off : Word) : (s.setExtended m).wordCells seg off = s.wordCells seg off := by simp [State.wordCells]
@[simp] theorem wordCells_setSegOverride (o : Option SReg) (seg off : Word) : (s.setSegOverride o).wordCells seg off = s.wordCells seg off := by simp [State.wordCells]
@[simp] theorem wordCells_setLastOpcode (b : Byte) (seg off : Word) : (s.setLastOpcode b).wordCells seg off = s.wordCells seg off := by simp [State.wordCells]
@[simp] theorem wordCells_setClock (n : Nat) (seg off : Word) : (s.setClock n).wordCells seg off = s.wordCells seg off := by simp [State.wordCells]
@[simp] theorem wordCells_setHalted (h : Option Fault) (seg off : Word) : (s.setHalted h).wordCells seg off = s.wordCells seg off := by simp [State.wordCells]
@[simp] theorem wordCells_record (p : Word) (v : Byte) (seg off : Word) : (s.record p v).wordCells seg off = s.wordCells seg off := by simp [State.wordCells]

/-! ## `cell` -/

@[simp] theorem cell_setReg16 (r : Reg16) (v : Word) (x : ByteCell) : (s.setReg16 r v).cell x = s.cell x := by obtain ⟨_ | _, a⟩ := x <;> simp [State.cell]
@[simp] theorem cell_setSReg (r : SReg) (v : Word) (x : ByteCell) : (s.setSReg r v).cell x = s.cell x := by obtain ⟨_ | _, a⟩ := x <;> simp [State.cell]
@[simp] theorem cell_setPc (v : Word) (x : ByteCell) : (s.setPc v).cell x = s.cell x := by obtain ⟨_ | _, a⟩ := x <;> simp [State.cell]
@[simp] theorem cell_setPsw (v : Word) (x : ByteCell) : (s.setPsw v).cell x = s.cell x := by obtain ⟨_ | _, a⟩ := x <;> simp [State.cell]
@[simp] theorem cell_setPorts (m : Mem) (x : ByteCell) : (s.setPorts m).cell x = s.cell x := by obtain ⟨_ | _, a⟩ := x <;> simp [State.cell]
@[simp] theorem cell_setSegOverride (o : Option SReg) (x : ByteCell) : (s.setSegOverride o).cell x = s.cell x := by obtain ⟨_ | _, a⟩ := x <;> simp [State.cell]
@[simp] theorem cell_setLastOpcode (b : Byte) (x : ByteCell) : (s.setLastOpcode b).cell x = s.cell x := by obtain ⟨_ | _, a⟩ := x <;> simp [State.cell]
@[simp] theorem cell_setClock (n : Nat) (x : ByteCell) : (s.setClock n).cell x = s.cell x := by obtain ⟨_ | _, a⟩ := x <;> simp [State.cell]
@[simp] theorem cell_setHalted (h : Option Fault) (x : ByteCell) : (s.setHalted h).cell x = s.cell x := by obtain ⟨_ | _, a⟩ := x <;> simp [State.cell]
@[simp] theorem cell_record (p : Word) (v : Byte) (x : ByteCell) : (s.record p v).cell x = s.cell x := by obtain ⟨_ | _, a⟩ := x <;> simp [State.cell]

/-! ## `physRead` -/

@[simp] theorem physRead_setReg16 (r : Reg16) (v : Word) (a : Nat) : (s.setReg16 r v).physRead a = s.physRead a := by simp [State.physRead]
@[simp] theorem physRead_setSReg (r : SReg) (v : Word) (a : Nat) : (s.setSReg r v).physRead a = s.physRead a := by simp [State.physRead]
@[simp] theorem physRead_setPc (v : Word) (a : Nat) : (s.setPc v).physRead a = s.physRead a := by simp [State.physRead]
@[simp] theorem physRead_setPsw (v : Word) (a : Nat) : (s.setPsw v).physRead a = s.physRead a := by simp [State.physRead]
@[simp] theorem physRead_setSegOverride (o : Option SReg) (a : Nat) : (s.setSegOverride o).physRead a = s.physRead a := by simp [State.physRead]
@[simp] theorem physRead_setLastOpcode (b : Byte) (a : Nat) : (s.setLastOpcode b).physRead a = s.physRead a := by simp [State.physRead]
@[simp] theorem physRead_setClock (n : Nat) (a : Nat) : (s.setClock n).physRead a = s.physRead a := by simp [State.physRead]
@[simp] theorem physRead_setHalted (h : Option Fault) (a : Nat) : (s.setHalted h).physRead a = s.physRead a := by simp [State.physRead]
@[simp] theorem physRead_record (p : Word) (v : Byte) (a : Nat) : (s.record p v).physRead a = s.physRead a := by simp [State.physRead]

/-! ## `memRead8` -/

@[simp] theorem memRead8_setReg16 (r : Reg16) (v : Word) (seg off : Word) : (s.setReg16 r v).memRead8 seg off = s.memRead8 seg off := by simp [State.memRead8]
@[simp] theorem memRead8_setSReg (r : SReg) (v : Word) (seg off : Word) : (s.setSReg r v).memRead8 seg off = s.memRead8 seg off := by simp [State.memRead8]
@[simp] theorem memRead8_setPc (v : Word) (seg off : Word) : (s.setPc v).memRead8 seg off = s.memRead8 seg off := by simp [State.memRead8]
@[simp] theorem memRead8_setPsw (v : Word) (seg off : Word) : (s.setPsw v).memRead8 seg off = s.memRead8 seg off := by simp [State.memRead8]
@[simp] theorem memRead8_setSegOverride (o : Option SReg) (seg off : Word) : (s.setSegOverride o).memRead8 seg off = s.memRead8 seg off := by simp [State.memRead8]
@[simp] theorem memRead8_setLastOpcode (b : Byte) (seg off : Word) : (s.setLastOpcode b).memRead8 seg off = s.memRead8 seg off := by simp [State.memRead8]
@[simp] theorem memRead8_setClock (n : Nat) (seg off : Word) : (s.setClock n).memRead8 seg off = s.memRead8 seg off := by simp [State.memRead8]
@[simp] theorem memRead8_setHalted (h : Option Fault) (seg off : Word) : (s.setHalted h).memRead8 seg off = s.memRead8 seg off := by simp [State.memRead8]
@[simp] theorem memRead8_record (p : Word) (v : Byte) (seg off : Word) : (s.record p v).memRead8 seg off = s.memRead8 seg off := by simp [State.memRead8]

/-! ## `memRead16` -/

@[simp] theorem memRead16_setReg16 (r : Reg16) (v : Word) (seg off : Word) : (s.setReg16 r v).memRead16 seg off = s.memRead16 seg off := by simp [State.memRead16]
@[simp] theorem memRead16_setSReg (r : SReg) (v : Word) (seg off : Word) : (s.setSReg r v).memRead16 seg off = s.memRead16 seg off := by simp [State.memRead16]
@[simp] theorem memRead16_setPc (v : Word) (seg off : Word) : (s.setPc v).memRead16 seg off = s.memRead16 seg off := by simp [State.memRead16]
@[simp] theorem memRead16_setPsw (v : Word) (seg off : Word) : (s.setPsw v).memRead16 seg off = s.memRead16 seg off := by simp [State.memRead16]
@[simp] theorem memRead16_setSegOverride (o : Option SReg) (seg off : Word) : (s.setSegOverride o).memRead16 seg off = s.memRead16 seg off := by simp [State.memRead16]
@[simp] theorem memRead16_setLastOpcode (b : Byte) (seg off : Word) : (s.setLastOpcode b).memRead16 seg off = s.memRead16 seg off := by simp [State.memRead16]
@[simp] theorem memRead16_setClock (n : Nat) (seg off : Word) : (s.setClock n).memRead16 seg off = s.memRead16 seg off := by simp [State.memRead16]
@[simp] theorem memRead16_setHalted (h : Option Fault) (seg off : Word) : (s.setHalted h).memRead16 seg off = s.memRead16 seg off := by simp [State.memRead16]
@[simp] theorem memRead16_record (p : Word) (v : Byte) (seg off : Word) : (s.record p v).memRead16 seg off = s.memRead16 seg off := by simp [State.memRead16]

/-! ## `vectorAt` -/

@[simp] theorem vectorAt_setReg16 (r : Reg16) (v : Word) (a : Nat) : (s.setReg16 r v).vectorAt a = s.vectorAt a := by simp [State.vectorAt]
@[simp] theorem vectorAt_setSReg (r : SReg) (v : Word) (a : Nat) : (s.setSReg r v).vectorAt a = s.vectorAt a := by simp [State.vectorAt]
@[simp] theorem vectorAt_setPc (v : Word) (a : Nat) : (s.setPc v).vectorAt a = s.vectorAt a := by simp [State.vectorAt]
@[simp] theorem vectorAt_setPsw (v : Word) (a : Nat) : (s.setPsw v).vectorAt a = s.vectorAt a := by simp [State.vectorAt]
@[simp] theorem vectorAt_setSegOverride (o : Option SReg) (a : Nat) : (s.setSegOverride o).vectorAt a = s.vectorAt a := by simp [State.vectorAt]
@[simp] theorem vectorAt_setLastOpcode (b : Byte) (a : Nat) : (s.setLastOpcode b).vectorAt a = s.vectorAt a := by simp [State.vectorAt]
@[simp] theorem vectorAt_setClock (n : Nat) (a : Nat) : (s.setClock n).vectorAt a = s.vectorAt a := by simp [State.vectorAt]
@[simp] theorem vectorAt_setHalted (h : Option Fault) (a : Nat) : (s.setHalted h).vectorAt a = s.vectorAt a := by simp [State.vectorAt]
@[simp] theorem vectorAt_record (p : Word) (v : Byte) (a : Nat) : (s.record p v).vectorAt a = s.vectorAt a := by simp [State.vectorAt]

/-! ## `dataSeg` -/

@[simp] theorem dataSeg_setReg16 (r : Reg16) (v : Word) : (s.setReg16 r v).dataSeg = s.dataSeg := by simp [State.dataSeg]
@[simp] theorem dataSeg_setPc (v : Word) : (s.setPc v).dataSeg = s.dataSeg := by simp [State.dataSeg]
@[simp] theorem dataSeg_setPsw (v : Word) : (s.setPsw v).dataSeg = s.dataSeg := by simp [State.dataSeg]
@[simp] theorem dataSeg_setMemory (m : Mem) : (s.setMemory m).dataSeg = s.dataSeg := by simp [State.dataSeg]
@[simp] theorem dataSeg_setExtended (m : Mem) : (s.setExtended m).dataSeg = s.dataSeg := by simp [State.dataSeg]
@[simp] theorem dataSeg_setPorts (m : Mem) : (s.setPorts m).dataSeg = s.dataSeg := by simp [State.dataSeg]
@[simp] theorem dataSeg_setLastOpcode (b : Byte) : (s.setLastOpcode b).dataSeg = s.dataSeg := by simp [State.dataSeg]
@[simp] theorem dataSeg_setClock (n : Nat) : (s.setClock n).dataSeg = s.dataSeg := by simp [State.dataSeg]
@[simp] theorem dataSeg_setHalted (h : Option Fault) : (s.setHalted h).dataSeg = s.dataSeg := by simp [State.dataSeg]
@[simp] theorem dataSeg_record (p : Word) (v : Byte) : (s.record p v).dataSeg = s.dataSeg := by simp [State.dataSeg]

/-! ## `baseSum` -/

@[simp] theorem baseSum_setSReg (r : SReg) (v : Word) (base : Base) : (s.setSReg r v).baseSum base = s.baseSum base := by cases base <;> simp [State.baseSum]
@[simp] theorem baseSum_setPc (v : Word) (base : Base) : (s.setPc v).baseSum base = s.baseSum base := by cases base <;> simp [State.baseSum]
@[simp] theorem baseSum_setPsw (v : Word) (base : Base) : (s.setPsw v).baseSum base = s.baseSum base := by cases base <;> simp [State.baseSum]
@[simp] theorem baseSum_setMemory (m : Mem) (base : Base) : (s.setMemory m).baseSum base = s.baseSum base := by cases base <;> simp [State.baseSum]
@[simp] theorem baseSum_setExtended (m : Mem) (base : Base) : (s.setExtended m).baseSum base = s.baseSum base := by cases base <;> simp [State.baseSum]
@[simp] theorem baseSum_setPorts (m : Mem) (base : Base) : (s.setPorts m).baseSum base = s.baseSum base := by cases base <;> simp [State.baseSum]
@[simp] theorem baseSum_setSegOverride (o : Option SReg) (base : Base) : (s.setSegOverride o).baseSum base = s.baseSum base := by cases base <;> simp [State.baseSum]
@[simp] theorem baseSum_setLastOpcode (b : Byte) (base : Base) : (s.setLastOpcode b).baseSum base = s.baseSum base := by cases base <;> simp [State.baseSum]
@[simp] theorem baseSum_setClock (n : Nat) (base : Base) : (s.setClock n).baseSum base = s.baseSum base := by cases base <;> simp [State.baseSum]
@[simp] theorem baseSum_setHalted (h : Option Fault) (base : Base) : (s.setHalted h).baseSum base = s.baseSum base := by cases base <;> simp [State.baseSum]
@[simp] theorem baseSum_record (p : Word) (v : Byte) (base : Base) : (s.record p v).baseSum base = s.baseSum base := by cases base <;> simp [State.baseSum]

/-! ## `flag` -/

@[simp] theorem flag_setReg16 (r : Reg16) (v : Word) (f : Flag) : (s.setReg16 r v).flag f = s.flag f := by simp [State.flag]
@[simp] theorem flag_setSReg (r : SReg) (v : Word) (f : Flag) : (s.setSReg r v).flag f = s.flag f := by simp [State.flag]
@[simp] theorem flag_setPc (v : Word) (f : Flag) : (s.setPc v).flag f = s.flag f := by simp [State.flag]
@[simp] theorem flag_setMemory (m : Mem) (f : Flag) : (s.setMemory m).flag f = s.flag f := by simp [State.flag]
@[simp] theorem flag_setExtended (m : Mem) (f : Flag) : (s.setExtended m).flag f = s.flag f := by simp [State.flag]
@[simp] theorem flag_setPorts (m : Mem) (f : Flag) : (s.setPorts m).flag f = s.flag f := by simp [State.flag]
@[simp] theorem flag_setSegOverride (o : Option SReg) (f : Flag) : (s.setSegOverride o).flag f = s.flag f := by simp [State.flag]
@[simp] theorem flag_setLastOpcode (b : Byte) (f : Flag) : (s.setLastOpcode b).flag f = s.flag f := by simp [State.flag]
@[simp] theorem flag_setClock (n : Nat) (f : Flag) : (s.setClock n).flag f = s.flag f := by simp [State.flag]
@[simp] theorem flag_setHalted (h : Option Fault) (f : Flag) : (s.setHalted h).flag f = s.flag f := by simp [State.flag]
@[simp] theorem flag_record (p : Word) (v : Byte) (f : Flag) : (s.record p v).flag f = s.flag f := by simp [State.flag]

/-! ## `codeByte` -/

@[simp] theorem codeByte_setReg16 (r : Reg16) (v : Word) (k : Word) : (s.setReg16 r v).codeByte k = s.codeByte k := by simp [State.codeByte]
@[simp] theorem codeByte_setPsw (v : Word) (k : Word) : (s.setPsw v).codeByte k = s.codeByte k := by simp [State.codeByte]
@[simp] theorem codeByte_setSegOverride (o : Option SReg) (k : Word) : (s.setSegOverride o).codeByte k = s.codeByte k := by simp [State.codeByte]
@[simp] theorem codeByte_setLastOpcode (b : Byte) (k : Word) : (s.setLastOpcode b).codeByte k = s.codeByte k := by simp [State.codeByte]
@[simp] theorem codeByte_setClock (n : Nat) (k : Word) : (s.setClock n).codeByte k = s.codeByte k := by simp [State.codeByte]
@[simp] theorem codeByte_setHalted (h : Option Fault) (k : Word) : (s.setHalted h).codeByte k = s.codeByte k := by simp [State.codeByte]
@[simp] theorem codeByte_record (p : Word) (v : Byte) (k : Word) : (s.record p v).codeByte k = s.codeByte k := by simp [State.codeByte]

end Sys2Proof.Machine.State
end

