-- ==== Sys2Proof/Laws/Ops.lean ====
section
/-! SUPPORT. What each shared operation of Machine/Ops.lean and Machine/Operands.lean can do, said once: what it reads back,
what it changes (`OnlyChanges`), and that it keeps the state well formed. -/

namespace Sys2Proof.Machine

/-! ## Composing changes -/

/-- What two operations one after the other may change. -/
def Changes.append (c d : Changes) : Changes where
  regs := c.regs ++ d.regs
  halves := c.halves ++ d.halves
  sregs := c.sregs ++ d.sregs
  flags := c.flags ++ d.flags
  allPsw := c.allPsw || d.allPsw
  cells := c.cells ++ d.cells
  ports := c.ports ++ d.ports
  output := c.output ++ d.output

theorem OnlyChanges.refl (s : State) : OnlyChanges {} s s where
  regs := fun _ _ _ => rfl
  halves := fun _ _ _ => rfl
  sregs := fun _ _ => rfl
  psw := fun _ _ _ => rfl
  cells := fun _ _ => rfl
  ports := fun _ _ => rfl
  internal := rfl
  segOverride := rfl
  lastOpcode := rfl
  clock := rfl
  trace := by simp
  halted := rfl
  cfg := rfl

theorem OnlyChanges.trans {c d : Changes} {s t u : State} (h : OnlyChanges c s t) (k : OnlyChanges d t u) :
    OnlyChanges (c.append d) s u where
  regs := fun r hr hh => by
    simp only [Changes.append, List.mem_append, not_or] at hr hh
    rw [k.regs r hr.2 fun x hx => hh x (.inr hx), h.regs r hr.1 fun x hx => hh x (.inl hx)]
  halves := fun x hx hr => by
    simp only [Changes.append, List.mem_append, not_or] at hx hr
    rw [k.halves x hx.2 hr.2, h.halves x hx.1 hr.1]
  sregs := fun r hr => by
    simp only [Changes.append, List.mem_append, not_or] at hr
    rw [k.sregs r hr.2, h.sregs r hr.1]
  psw := fun ha i hi => by
    simp only [Changes.append, List.mem_append, Bool.or_eq_false_iff] at ha hi
    rw [k.psw ha.2 i fun f hf => hi f (.inr hf), h.psw ha.1 i fun f hf => hi f (.inl hf)]
  cells := fun x hx => by
    simp only [Changes.append, List.mem_append, not_or] at hx
    rw [k.cells x hx.2, h.cells x hx.1]
  ports := fun p hp => by
    simp only [Changes.append, List.mem_append, not_or] at hp
    rw [k.ports p hp.2, h.ports p hp.1]
  internal := k.internal.trans h.internal
  segOverride := k.segOverride.trans h.segOverride
  lastOpcode := k.lastOpcode.trans h.lastOpcode
  clock := k.clock.trans h.clock
  trace := by rw [k.trace, h.trace, Changes.append, List.append_assoc]
  halted := k.halted.trans h.halted
  cfg := k.cfg.trans h.cfg

/-- What may change may be named more generously; the output may not. -/
theorem OnlyChanges.mono {c d : Changes} {s t : State} (h : OnlyChanges c s t) (regs : c.regs ⊆ d.regs)
    (halves : ∀ x ∈ c.halves, x ∈ d.halves ∨ parentOf x ∈ d.regs) (sregs : c.sregs ⊆ d.sregs)
    (flags : c.flags ⊆ d.flags) (allPsw : c.allPsw = true → d.allPsw = true) (cells : c.cells ⊆ d.cells)
    (ports : c.ports ⊆ d.ports) (output : c.output = d.output) : OnlyChanges d s t where
  regs := fun r hr hh => h.regs r (fun k => hr (regs k)) fun x hx hp => by
    rcases halves x hx with k | k
    · exact hh x k hp
    · exact hr (hp ▸ k)
  halves := fun x hx hr => h.halves x (fun k => by
    rcases halves x k with k | k
    · exact hx k
    · exact hr k) fun k => hr (regs k)
  sregs := fun r hr => h.sregs r fun k => hr (sregs k)
  psw := fun ha i hi => h.psw (by cases k : c.allPsw <;> simp_all) i fun f hf => hi f (flags hf)
  cells := fun x hx => h.cells x fun k => hx (cells k)
  ports := fun p hp => h.ports p fun k => hp (ports k)
  internal := h.internal
  segOverride := h.segOverride
  lastOpcode := h.lastOpcode
  clock := h.clock
  trace := output ▸ h.trace
  halted := h.halted
  cfg := h.cfg

/-! ## Bytes and words -/

theorem toNat_wordOf (hi lo : Byte) : (wordOf hi lo).toNat = hi.toNat * 256 + lo.toNat := by
  have := lo.isLt
  rw [wordOf, BitVec.toNat_append, ← Nat.shiftLeft_add_eq_or_of_lt this, Nat.shiftLeft_eq]

theorem toNat_loByte (v : Word) : (loByte v).toNat = v.toNat % 256 := by simp [loByte]

theorem toNat_hiByte (v : Word) : (hiByte v).toNat = v.toNat / 256 := by
  have := v.isLt
  simp only [hiByte, BitVec.extractLsb'_toNat, Nat.shiftRight_eq_div_pow]
  omega

@[simp] theorem loByte_wordOf (hi lo : Byte) : loByte (wordOf hi lo) = lo := by
  have := lo.isLt
  apply BitVec.eq_of_toNat_eq
  rw [toNat_loByte, toNat_wordOf]
  omega

@[simp] theorem hiByte_wordOf (hi lo : Byte) : hiByte (wordOf hi lo) = hi := by
  have := lo.isLt
  apply BitVec.eq_of_toNat_eq
  rw [toNat_hiByte, toNat_wordOf]
  omega

@[simp] theorem wordOf_hiByte_loByte (v : Word) : wordOf (hiByte v) (loByte v) = v := by
  apply BitVec.eq_of_toNat_eq
  rw [toNat_wordOf, toNat_hiByte, toNat_loByte]
  omega

namespace State

variable (s : State)

/-! ## Byte registers (R11) -/

theorem reg8_setReg8 (h : Reg8) (v : Byte) (q : Reg8) :
    (s.setReg8 h v).reg8 q = if q = h then v else s.reg8 q := by
  cases h <;> cases q <;> simp [setReg8, reg8, parentOf, isHighHalf]

@[simp] theorem reg8_setReg8_same (h : Reg8) (v : Byte) : (s.setReg8 h v).reg8 h = v := by
  simp [reg8_setReg8]

theorem reg16_setReg8 (h : Reg8) (v : Byte) {q : Reg16} (hq : parentOf h ≠ q) :
    (s.setReg8 h v).reg16 q = s.reg16 q := by
  simp [setReg8, Ne.symm hq]

theorem reg8_setReg16 (r : Reg16) (v : Word) {q : Reg8} (hq : parentOf q ≠ r) :
    (s.setReg16 r v).reg8 q = s.reg8 q := by
  simp [reg8, hq]

theorem reg16_eq_wordOf_aw : s.aw = wordOf (s.reg8 .ah) (s.reg8 .al) := by simp [reg8, parentOf, isHighHalf]

@[simp] theorem setReg8_psw (h : Reg8) (v : Byte) : (s.setReg8 h v).psw = s.psw := by simp [setReg8]
@[simp] theorem setReg8_pc (h : Reg8) (v : Byte) : (s.setReg8 h v).pc = s.pc := by simp [setReg8]

theorem onlyChanges_setReg16 (r : Reg16) (v : Word) : OnlyChanges { regs := [r] } s (s.setReg16 r v) := by
  constructor <;> simp +contextual [reg8_setReg16]

theorem onlyChanges_setReg8 (h : Reg8) (v : Byte) : OnlyChanges { halves := [h] } s (s.setReg8 h v) := by
  constructor
  · intro r _ hr
    exact reg16_setReg8 s h v (hr h (by simp))
  · intro q hq _
    simp only [List.mem_singleton] at hq
    simp [reg8_setReg8, hq]
  all_goals simp [setReg8]

theorem onlyChanges_setSReg (r : SReg) (v : Word) : OnlyChanges { sregs := [r] } s (s.setSReg r v) := by
  constructor <;> simp +contextual

theorem onlyChanges_setPc (v : Word) : OnlyChanges {} s (s.setPc v) := by
  constructor <;> simp

theorem onlyChanges_setPsw {fs : List Flag} {v : Word}
    (h : ∀ i, (∀ f ∈ fs, f.bit ≠ i) → v.getLsbD i = s.psw.getLsbD i) : OnlyChanges { flags := fs } s (s.setPsw v) := by
  constructor
  case psw => intro _ i hi; simpa using h i hi
  all_goals simp

theorem onlyChanges_setPsw_all (v : Word) : OnlyChanges { allPsw := true } s (s.setPsw v) := by
  constructor <;> simp

/-! ## Ports and output (R49, R50) -/

theorem portRead8_portWrite8_other {p q : Word} (v : Byte) (h : q ≠ p) :
    (s.portWrite8 p v).portRead8 q = s.portRead8 q := by
  simp only [portRead8, portWrite8, setPorts_ports]
  exact Mem.read_write_other _ _ fun k => h (BitVec.eq_of_toNat_eq k)

theorem portRead8_portWrite8_same (hs : Mem.wf s.ports = true) (p : Word) (v : Byte) :
    (s.portWrite8 p v).portRead8 p = v := by
  simp only [portRead8, portWrite8, setPorts_ports]
  exact Mem.read_write_same v hs

theorem onlyChanges_portWrite8 (p : Word) (v : Byte) : OnlyChanges { ports := [p] } s (s.portWrite8 p v) := by
  constructor
  case ports =>
    intro q hq
    exact portRead8_portWrite8_other s v (by simpa using hq)
  all_goals simp [portWrite8]

theorem onlyChanges_output8 (p : Word) (v : Byte) :
    OnlyChanges { ports := [p], output := [(p, v)] } s (s.output8 p v) := by
  constructor
  case ports =>
    intro q hq
    simpa [output8] using portRead8_portWrite8_other s v (by simpa using hq)
  all_goals simp [output8, portWrite8]

theorem onlyChanges_output16 (p v : Word) :
    OnlyChanges { ports := [p, p + 1], output := [(p, loByte v), (p + 1, hiByte v)] } s (s.output16 p v) := by
  simpa [Changes.append, output16] using
    (onlyChanges_output8 s p (loByte v)).trans (onlyChanges_output8 (s.output8 p (loByte v)) (p + 1) (hiByte v))

theorem output8_pc (p : Word) (v : Byte) : (s.output8 p v).pc = s.pc := by simp [output8, portWrite8]
theorem output16_pc (p v : Word) : (s.output16 p v).pc = s.pc := by simp [output16, output8_pc]

/-! ## Memory (R41 to R43) -/

theorem phys_lt (seg off : Word) : phys seg off < 0x100000 := Nat.mod_lt _ (by decide)

/-- Two offsets of one segment reach two physical addresses. -/
theorem phys_injective (seg : Word) {a b : Word} (h : phys seg a = phys seg b) : a = b := by
  unfold phys at h
  have := a.isLt; have := b.isLt
  exact BitVec.eq_of_toNat_eq (by omega)

theorem physRead_eq_cell (a : Nat) :
    s.physRead a = s.cell (if s.selectsExtended a then .extended else .conventional, a) := by
  unfold physRead cell; split <;> simp_all

theorem memRead8_eq_cell (seg off : Word) : s.memRead8 seg off = s.cell (s.cellAt seg off) := physRead_eq_cell s _

@[simp] theorem reg16_physWrite (a : Nat) (v : Byte) (r : Reg16) : (s.physWrite a v).reg16 r = s.reg16 r := by
  unfold physWrite; split <;> simp

@[simp] theorem sreg_physWrite (a : Nat) (v : Byte) (r : SReg) : (s.physWrite a v).sreg r = s.sreg r := by
  unfold physWrite; split <;> simp

@[simp] theorem physWrite_pc (a : Nat) (v : Byte) : (s.physWrite a v).pc = s.pc := by unfold physWrite; split <;> simp
@[simp] theorem physWrite_psw (a : Nat) (v : Byte) : (s.physWrite a v).psw = s.psw := by unfold physWrite; split <;> simp
@[simp] theorem physWrite_ports (a : Nat) (v : Byte) : (s.physWrite a v).ports = s.ports := by
  unfold physWrite; split <;> simp
@[simp] theorem physWrite_cfg (a : Nat) (v : Byte) : (s.physWrite a v).cfg = s.cfg := by unfold physWrite; split <;> simp
@[simp] theorem physWrite_segOverride (a : Nat) (v : Byte) : (s.physWrite a v).segOverride = s.segOverride := by
  unfold physWrite; split <;> simp

@[simp] theorem portRead8_physWrite (a : Nat) (v : Byte) (p : Word) : (s.physWrite a v).portRead8 p = s.portRead8 p := by
  simp [portRead8]

@[simp] theorem selectsExtended_physWrite (a : Nat) (v : Byte) (b : Nat) :
    (s.physWrite a v).selectsExtended b = s.selectsExtended b := by simp [selectsExtended, xa]

@[simp] theorem cellAt_physWrite (a : Nat) (v : Byte) (seg off : Word) :
    (s.physWrite a v).cellAt seg off = s.cellAt seg off := by simp [cellAt]

/-- A byte store changes no other byte. -/
theorem cell_physWrite_other {a : Nat} (v : Byte) {x : ByteCell}
    (h : x ≠ (if s.selectsExtended a then .extended else .conventional, a)) : (s.physWrite a v).cell x = s.cell x := by
  obtain ⟨b, k⟩ := x
  unfold physWrite
  split
  · next hs =>
    cases b
    · simp [cell]
    · simp only [hs, if_true, ne_eq, Prod.mk.injEq, true_and] at h
      simp [cell, Mem.read_write_other _ _ h]
  · next hs =>
    cases b
    · simp only [hs, ne_eq, Prod.mk.injEq] at h
      simp [cell, Mem.read_write_other _ _ (by simpa using h)]
    · simp [cell]

theorem cell_physWrite_same (hm : Mem.wf s.memory = true) (he : Mem.wf s.extended = true) (a : Nat) (v : Byte) :
    (s.physWrite a v).cell (if s.selectsExtended a then .extended else .conventional, a) = v := by
  unfold physWrite
  split
  · simp [cell, Mem.read_write_same v he]
  · simp [cell, Mem.read_write_same v hm]

theorem onlyChanges_memWrite8 (seg off : Word) (v : Byte) :
    OnlyChanges { cells := [s.cellAt seg off] } s (s.memWrite8 seg off v) := by
  constructor
  case cells =>
    intro x hx
    exact cell_physWrite_other s v (by simpa [cellAt] using hx)
  case halves => intros; simp [memWrite8, reg8]
  case trace => unfold memWrite8 physWrite; split <;> simp
  case internal => unfold memWrite8 physWrite; split <;> simp
  case lastOpcode => unfold memWrite8 physWrite; split <;> simp
  case clock => unfold memWrite8 physWrite; split <;> simp
  case halted => unfold memWrite8 physWrite; split <;> simp
  all_goals simp [memWrite8]

theorem onlyChanges_memWrite16 (seg off v : Word) :
    OnlyChanges { cells := s.wordCells seg off } s (s.memWrite16 seg off v) := by
  have h := (onlyChanges_memWrite8 s seg off (loByte v)).trans
    (onlyChanges_memWrite8 (s.memWrite8 seg off (loByte v)) seg (off + 1) (hiByte v))
  simpa [Changes.append, memWrite8, memWrite16, wordCells] using h

@[simp] theorem memWrite8_pc (seg off : Word) (v : Byte) : (s.memWrite8 seg off v).pc = s.pc := by simp [memWrite8]
@[simp] theorem memWrite16_pc (seg off v : Word) : (s.memWrite16 seg off v).pc = s.pc := by simp [memWrite16]
@[simp] theorem memWrite8_psw (seg off : Word) (v : Byte) : (s.memWrite8 seg off v).psw = s.psw := by simp [memWrite8]
@[simp] theorem memWrite16_psw (seg off v : Word) : (s.memWrite16 seg off v).psw = s.psw := by simp [memWrite16]
@[simp] theorem reg16_memWrite8 (seg off : Word) (v : Byte) (r : Reg16) :
    (s.memWrite8 seg off v).reg16 r = s.reg16 r := by simp [memWrite8]
@[simp] theorem reg16_memWrite16 (seg off v : Word) (r : Reg16) : (s.memWrite16 seg off v).reg16 r = s.reg16 r := by
  simp [memWrite16]
@[simp] theorem sreg_memWrite8 (seg off : Word) (v : Byte) (r : SReg) :
    (s.memWrite8 seg off v).sreg r = s.sreg r := by simp [memWrite8]
@[simp] theorem sreg_memWrite16 (seg off v : Word) (r : SReg) : (s.memWrite16 seg off v).sreg r = s.sreg r := by
  simp [memWrite16]
@[simp] theorem cellAt_memWrite8 (seg off : Word) (v : Byte) (g o : Word) :
    (s.memWrite8 seg off v).cellAt g o = s.cellAt g o := by simp [memWrite8]
@[simp] theorem cellAt_memWrite16 (seg off v : Word) (g o : Word) :
    (s.memWrite16 seg off v).cellAt g o = s.cellAt g o := by simp [memWrite16]

theorem cellAt_ne (seg : Word) {a b : Word} (h : a ≠ b) : s.cellAt seg a ≠ s.cellAt seg b := fun k =>
  h (phys_injective seg (Prod.mk.inj k).2)

theorem add_one_ne (a : Word) : a + 1 ≠ a := by
  bv_omega

theorem memRead8_memWrite8_other (seg off : Word) (v : Byte) {g o : Word} (h : s.cellAt g o ≠ s.cellAt seg off) :
    (s.memWrite8 seg off v).memRead8 g o = s.memRead8 g o := by
  rw [memRead8_eq_cell, memRead8_eq_cell, cellAt_memWrite8]
  exact (onlyChanges_memWrite8 s seg off v).cells _ (by simpa using h)

/-! ## Well-formed states -/

theorem wf_iff : s.wf = true ↔
    (Mem.wf s.memory = true ∧ Mem.below 0x100000 s.memory = true) ∧
    (Mem.wf s.extended = true ∧ Mem.below 0xA0000 s.extended = true) ∧
    (Mem.wf s.ports = true ∧ Mem.below 0x10000 s.ports = true) ∧
    (Mem.wf s.internal = true ∧ Mem.below 0x100 s.internal = true) ∧ s.cfg.wf = true := by
  simp [wf, Config.memSize, Config.extSize, Config.portSize, Config.internalSize, and_assoc]

variable {s}

theorem wf_of_eq {t : State} (h : s.wf = true) (hm : t.memory = s.memory) (he : t.extended = s.extended)
    (hp : t.ports = s.ports) (hi : t.internal = s.internal) (hc : t.cfg = s.cfg) : t.wf = true := by
  rw [wf_iff] at *; rw [hm, he, hp, hi, hc]; exact h

theorem wf_setReg16 (h : s.wf = true) (r : Reg16) (v : Word) : (s.setReg16 r v).wf = true := by
  apply wf_of_eq h <;> simp
theorem wf_setReg8 (h : s.wf = true) (r : Reg8) (v : Byte) : (s.setReg8 r v).wf = true := wf_setReg16 h _ _
theorem wf_setSReg (h : s.wf = true) (r : SReg) (v : Word) : (s.setSReg r v).wf = true := by
  apply wf_of_eq h <;> simp
theorem wf_setPc (h : s.wf = true) (v : Word) : (s.setPc v).wf = true := by apply wf_of_eq h <;> simp
theorem wf_setPsw (h : s.wf = true) (v : Word) : (s.setPsw v).wf = true := by apply wf_of_eq h <;> simp
theorem wf_setSegOverride (h : s.wf = true) (o : Option SReg) : (s.setSegOverride o).wf = true := by
  apply wf_of_eq h <;> simp
theorem wf_setLastOpcode (h : s.wf = true) (b : Byte) : (s.setLastOpcode b).wf = true := by apply wf_of_eq h <;> simp
theorem wf_setClock (h : s.wf = true) (n : Nat) : (s.setClock n).wf = true := by apply wf_of_eq h <;> simp
theorem wf_setHalted (h : s.wf = true) (f : Option Fault) : (s.setHalted f).wf = true := by apply wf_of_eq h <;> simp
theorem wf_record (h : s.wf = true) (p : Word) (v : Byte) : (s.record p v).wf = true := by apply wf_of_eq h <;> simp

theorem wf_portWrite8 (h : s.wf = true) (p : Word) (v : Byte) : (s.portWrite8 p v).wf = true := by
  rw [wf_iff] at *
  simp only [portWrite8, setPorts_memory, setPorts_extended, setPorts_ports, setPorts_internal, setPorts_cfg]
  exact ⟨h.1, h.2.1, ⟨Mem.wf_write _ _ h.2.2.1.1, Mem.below_write _ h.2.2.1.2 p.isLt⟩, h.2.2.2⟩

theorem wf_physWrite (h : s.wf = true) {a : Nat} (ha : a < 0x100000) (v : Byte) : (s.physWrite a v).wf = true := by
  rw [wf_iff] at *
  unfold physWrite
  split
  · next hs =>
    have hx : a < 0xA0000 := by
      simp only [selectsExtended, Bool.and_eq_true] at hs
      exact of_decide_eq_true hs.2
    simp only [setExtended_memory, setExtended_extended, setExtended_ports, setExtended_internal, setExtended_cfg]
    exact ⟨h.1, ⟨Mem.wf_write _ _ h.2.1.1, Mem.below_write _ h.2.1.2 hx⟩, h.2.2⟩
  · simp only [setMemory_memory, setMemory_extended, setMemory_ports, setMemory_internal, setMemory_cfg]
    exact ⟨⟨Mem.wf_write _ _ h.1.1, Mem.below_write _ h.1.2 ha⟩, h.2⟩

theorem wf_memWrite8 (h : s.wf = true) (seg off : Word) (v : Byte) : (s.memWrite8 seg off v).wf = true :=
  wf_physWrite h (phys_lt seg off) v
theorem wf_memWrite16 (h : s.wf = true) (seg off v : Word) : (s.memWrite16 seg off v).wf = true :=
  wf_memWrite8 (wf_memWrite8 h _ _ _) _ _ _
theorem wf_output8 (h : s.wf = true) (p : Word) (v : Byte) : (s.output8 p v).wf = true :=
  wf_record (wf_portWrite8 h p v) p v
theorem wf_output16 (h : s.wf = true) (p v : Word) : (s.output16 p v).wf = true := wf_output8 (wf_output8 h _ _) _ _
theorem wf_flipXa (h : s.wf = true) : s.flipXa.wf = true := wf_portWrite8 h _ _
theorem wf_branch (h : s.wf = true) (d : Word) : (s.branch d).wf = true := wf_setPc h _
theorem wf_farJump (h : s.wf = true) (seg off : Word) : (s.farJump seg off).wf = true := wf_setPc (wf_setSReg h _ _) _
theorem wf_pop16 (h : s.wf = true) : s.pop16.2.wf = true := wf_setReg16 h _ _
theorem wf_push16 (h : s.wf = true) {v : Word} {t : State} (k : s.push16 v = .ok t) : t.wf = true := by
  unfold push16 at k
  split at k
  · cases k
  · cases k; exact wf_memWrite16 (wf_setReg16 h _ _) _ _ _
theorem wf_write8 (h : s.wf = true) (x : Place Reg8) (v : Byte) : (s.write8 x v).wf = true := by
  cases x
  · exact wf_setReg8 h _ _
  · exact wf_memWrite8 h _ _ _
theorem wf_write16 (h : s.wf = true) (x : Place Reg16) (v : Word) : (s.write16 x v).wf = true := by
  cases x
  · exact wf_setReg16 h _ _
  · exact wf_memWrite16 h _ _ _

/-! ## Reading back what was stored -/

theorem memRead8_memWrite8_same (h : s.wf = true) (seg off : Word) (v : Byte) :
    (s.memWrite8 seg off v).memRead8 seg off = v := by
  rw [wf_iff] at h
  rw [memRead8_eq_cell, cellAt_memWrite8]
  exact cell_physWrite_same s h.1.1 h.2.1.1 _ v

theorem memRead16_memWrite16_same (h : s.wf = true) (seg off v : Word) :
    (s.memWrite16 seg off v).memRead16 seg off = v := by
  unfold memRead16 memWrite16
  rw [memRead8_memWrite8_same (wf_memWrite8 h _ _ _),
    memRead8_memWrite8_other _ _ _ _ (cellAt_ne _ seg (add_one_ne off).symm), memRead8_memWrite8_same h,
    wordOf_hiByte_loByte]

/-! ## Operands (30_encoding.md R74) -/

theorem read8_write8_same (h : s.wf = true) (x : Place Reg8) (v : Byte) : (s.write8 x v).read8 x = v := by
  cases x
  · exact reg8_setReg8_same _ _ _
  · exact memRead8_memWrite8_same h _ _ _

theorem read16_write16_same (h : s.wf = true) (x : Place Reg16) (v : Word) : (s.write16 x v).read16 x = v := by
  cases x
  · exact reg16_setReg16_same _ _ _
  · exact memRead16_memWrite16_same h _ _ _

variable (s)

theorem onlyChanges_write8 (x : Place Reg8) (v : Byte) :
    OnlyChanges { halves := placeRegs8 x, cells := s.placeCells8 x } s (s.write8 x v) := by
  cases x
  · exact onlyChanges_setReg8 s _ _
  · exact onlyChanges_memWrite8 s _ _ _

theorem onlyChanges_write16 (x : Place Reg16) (v : Word) :
    OnlyChanges { regs := placeRegs16 x, cells := s.placeCells16 x } s (s.write16 x v) := by
  cases x
  · exact onlyChanges_setReg16 s _ _
  · exact onlyChanges_memWrite16 s _ _ _

@[simp] theorem write8_pc (x : Place Reg8) (v : Byte) : (s.write8 x v).pc = s.pc := by cases x <;> simp [write8]
@[simp] theorem write16_pc (x : Place Reg16) (v : Word) : (s.write16 x v).pc = s.pc := by cases x <;> simp [write16]
@[simp] theorem write8_psw (x : Place Reg8) (v : Byte) : (s.write8 x v).psw = s.psw := by cases x <;> simp [write8]
@[simp] theorem write16_psw (x : Place Reg16) (v : Word) : (s.write16 x v).psw = s.psw := by cases x <;> simp [write16]

@[simp] theorem read8_setPsw (x : Place Reg8) (v : Word) : (s.setPsw v).read8 x = s.read8 x := by cases x <;> simp [read8]
@[simp] theorem read16_setPsw (x : Place Reg16) (v : Word) : (s.setPsw v).read16 x = s.read16 x := by
  cases x <;> simp [read16]

/-! ## Stack (R47, R48) -/

/-- All that a push can do. -/
theorem push16_cases (v : Word) :
    (s.sp.toNat < 2 ∧ s.push16 v = .error (.stackOverflow s.sp)) ∨
    (2 ≤ s.sp.toNat ∧ s.push16 v = .ok ((s.setReg16 .sp (s.sp - 2)).memWrite16 s.ss (s.sp - 2) v)) := by
  unfold push16
  by_cases h : s.sp.toNat < 2
  · exact .inl ⟨h, if_pos h⟩
  · exact .inr ⟨by omega, if_neg h⟩

theorem onlyChanges_push16 {v : Word} {t : State} (h : s.push16 v = .ok t) :
    OnlyChanges { regs := [.sp], cells := s.wordCells s.ss (s.sp - 2) } s t := by
  rcases push16_cases s v with ⟨_, k⟩ | ⟨_, k⟩
  · rw [k] at h; cases h
  · rw [k] at h; cases h
    simpa [Changes.append] using
      (onlyChanges_setReg16 s .sp (s.sp - 2)).trans (onlyChanges_memWrite16 _ s.ss (s.sp - 2) v)

theorem onlyChanges_pop16 : OnlyChanges { regs := [.sp] } s s.pop16.2 := onlyChanges_setReg16 s _ _

@[simp] theorem pop16_fst : s.pop16.1 = s.memRead16 s.ss s.sp := rfl
@[simp] theorem pop16_sp : s.pop16.2.sp = s.sp + 2 := rfl
@[simp] theorem pop16_pc : s.pop16.2.pc = s.pc := rfl

end State

/-- The memory of the reset state is in canonical form. -/
theorem reset_memory_wf : Mem.wf State.reset.memory = true := rfl

end Sys2Proof.Machine
end

