-- ==== Sys2Proof/Laws/PerInstr.lean ====
section
/-! SUPPORT. Statements about every instruction, one lemma per constructor: the length of an encoding is 1 to 6 bytes
(30_encoding.md R70). -/

namespace Sys2Proof.Laws.EncodedLength

/-- An instruction is 1 to 6 bytes (R70). -/
def Statement (i : Instr) : Prop := 1 ≤ (encode i).length ∧ (encode i).length ≤ 6

/-- The displacement of an operand is at most two bytes. -/
theorem dispBytes_length {ρ : Type} (rm : RM ρ) : rm.dispBytes.length ≤ 2 := by cases rm <;> simp [RM.dispBytes]

theorem encRM8_length (op : Byte) (reg : BitVec 3) (rm : RM8) (tail : List Byte) (h : tail.length ≤ 2) :
    1 ≤ (encRM8 op reg rm tail).length ∧ (encRM8 op reg rm tail).length ≤ 6 := by
  have := dispBytes_length rm
  simp [encRM8]; omega

theorem encRM16_length (op : Byte) (reg : BitVec 3) (rm : RM16) (tail : List Byte) (h : tail.length ≤ 2) :
    1 ≤ (encRM16 op reg rm tail).length ∧ (encRM16 op reg rm tail).length ≤ 6 := by
  have := dispBytes_length rm
  simp [encRM16]; omega

theorem one {i : Instr} {a : Byte} (h : encode i = [a]) : Statement i := by simp [Statement, h]
theorem two {i : Instr} {a b : Byte} (h : encode i = [a, b]) : Statement i := by simp [Statement, h]
theorem three {i : Instr} {a b c : Byte} (h : encode i = [a, b, c]) : Statement i := by simp [Statement, h]
theorem five {i : Instr} {a b c d e : Byte} (h : encode i = [a, b, c, d, e]) : Statement i := by simp [Statement, h]

theorem addRm8Reg8 (rm : RM8) (reg : Reg8) : Statement (.addRm8Reg8 rm reg) := encRM8_length _ _ _ _ (by simp)
theorem addRm16Reg16 (rm : RM16) (reg : Reg16) : Statement (.addRm16Reg16 rm reg) := encRM16_length _ _ _ _ (by simp)
theorem addReg8Rm8 (reg : Reg8) (rm : RM8) : Statement (.addReg8Rm8 reg rm) := encRM8_length _ _ _ _ (by simp)
theorem addReg16Rm16 (reg : Reg16) (rm : RM16) : Statement (.addReg16Rm16 reg rm) := encRM16_length _ _ _ _ (by simp)
theorem addAlImm8 (imm : Byte) : Statement (.addAlImm8 imm) := two rfl
theorem addAwImm16 (imm : Word) : Statement (.addAwImm16 imm) := three rfl
theorem pushDs1 : Statement .pushDs1 := one rfl
theorem popDs1 : Statement .popDs1 := one rfl
theorem orRm8Reg8 (rm : RM8) (reg : Reg8) : Statement (.orRm8Reg8 rm reg) := encRM8_length _ _ _ _ (by simp)
theorem orRm16Reg16 (rm : RM16) (reg : Reg16) : Statement (.orRm16Reg16 rm reg) := encRM16_length _ _ _ _ (by simp)
theorem orReg8Rm8 (reg : Reg8) (rm : RM8) : Statement (.orReg8Rm8 reg rm) := encRM8_length _ _ _ _ (by simp)
theorem orReg16Rm16 (reg : Reg16) (rm : RM16) : Statement (.orReg16Rm16 reg rm) := encRM16_length _ _ _ _ (by simp)
theorem orAlImm8 (imm : Byte) : Statement (.orAlImm8 imm) := two rfl
theorem orAwImm16 (imm : Word) : Statement (.orAwImm16 imm) := three rfl
theorem pushPs : Statement .pushPs := one rfl
theorem escUnimp00 (sub : Byte) : Statement (.escUnimp00 sub) := two rfl
theorem escUnimp80 (sub : Byte) : Statement (.escUnimp80 sub) := two rfl
theorem escUnimpC0 (sub : Byte) : Statement (.escUnimpC0 sub) := two rfl
theorem brkxa (n : Byte) : Statement (.brkxa n) := three rfl
theorem escUnimpE1 : Statement .escUnimpE1 := two rfl
theorem escUnimpE2 (sub : Byte) : Statement (.escUnimpE2 sub) := two rfl
theorem escUnimpE4 (sub : Byte) : Statement (.escUnimpE4 sub) := two rfl
theorem escUnimpE8 (sub : Byte) : Statement (.escUnimpE8 sub) := two rfl
theorem retxa (n : Byte) : Statement (.retxa n) := three rfl
theorem escUnimpF1 : Statement .escUnimpF1 := two rfl
theorem escUnimpF2 (sub : Byte) : Statement (.escUnimpF2 sub) := two rfl
theorem escUnimpF4 (sub : Byte) : Statement (.escUnimpF4 sub) := two rfl
theorem escUnimpF8 (sub : Byte) : Statement (.escUnimpF8 sub) := two rfl
theorem unimp10 : Statement .unimp10 := one rfl
theorem unimp11 : Statement .unimp11 := one rfl
theorem unimp12 : Statement .unimp12 := one rfl
theorem unimp13 : Statement .unimp13 := one rfl
theorem unimp14 : Statement .unimp14 := one rfl
theorem unimp15 : Statement .unimp15 := one rfl
theorem pushSs : Statement .pushSs := one rfl
theorem popSs : Statement .popSs := one rfl
theorem unimp18 : Statement .unimp18 := one rfl
theorem unimp19 : Statement .unimp19 := one rfl
theorem unimp1A : Statement .unimp1A := one rfl
theorem unimp1B : Statement .unimp1B := one rfl
theorem unimp1C : Statement .unimp1C := one rfl
theorem unimp1D : Statement .unimp1D := one rfl
theorem pushDs0 : Statement .pushDs0 := one rfl
theorem popDs0 : Statement .popDs0 := one rfl
theorem andRm8Reg8 (rm : RM8) (reg : Reg8) : Statement (.andRm8Reg8 rm reg) := encRM8_length _ _ _ _ (by simp)
theorem andRm16Reg16 (rm : RM16) (reg : Reg16) : Statement (.andRm16Reg16 rm reg) := encRM16_length _ _ _ _ (by simp)
theorem andReg8Rm8 (reg : Reg8) (rm : RM8) : Statement (.andReg8Rm8 reg rm) := encRM8_length _ _ _ _ (by simp)
theorem andReg16Rm16 (reg : Reg16) (rm : RM16) : Statement (.andReg16Rm16 reg rm) := encRM16_length _ _ _ _ (by simp)
theorem andAlImm8 (imm : Byte) : Statement (.andAlImm8 imm) := two rfl
theorem andAwImm16 (imm : Word) : Statement (.andAwImm16 imm) := three rfl
theorem prefixDs1 : Statement .prefixDs1 := one rfl
theorem unimp27 : Statement .unimp27 := one rfl
theorem subRm8Reg8 (rm : RM8) (reg : Reg8) : Statement (.subRm8Reg8 rm reg) := encRM8_length _ _ _ _ (by simp)
theorem subRm16Reg16 (rm : RM16) (reg : Reg16) : Statement (.subRm16Reg16 rm reg) := encRM16_length _ _ _ _ (by simp)
theorem subReg8Rm8 (reg : Reg8) (rm : RM8) : Statement (.subReg8Rm8 reg rm) := encRM8_length _ _ _ _ (by simp)
theorem subReg16Rm16 (reg : Reg16) (rm : RM16) : Statement (.subReg16Rm16 reg rm) := encRM16_length _ _ _ _ (by simp)
theorem subAlImm8 (imm : Byte) : Statement (.subAlImm8 imm) := two rfl
theorem subAwImm16 (imm : Word) : Statement (.subAwImm16 imm) := three rfl
theorem prefixPs : Statement .prefixPs := one rfl
theorem unimp2F : Statement .unimp2F := one rfl
theorem xorRm8Reg8 (rm : RM8) (reg : Reg8) : Statement (.xorRm8Reg8 rm reg) := encRM8_length _ _ _ _ (by simp)
theorem xorRm16Reg16 (rm : RM16) (reg : Reg16) : Statement (.xorRm16Reg16 rm reg) := encRM16_length _ _ _ _ (by simp)
theorem xorReg8Rm8 (reg : Reg8) (rm : RM8) : Statement (.xorReg8Rm8 reg rm) := encRM8_length _ _ _ _ (by simp)
theorem xorReg16Rm16 (reg : Reg16) (rm : RM16) : Statement (.xorReg16Rm16 reg rm) := encRM16_length _ _ _ _ (by simp)
theorem xorAlImm8 (imm : Byte) : Statement (.xorAlImm8 imm) := two rfl
theorem xorAwImm16 (imm : Word) : Statement (.xorAwImm16 imm) := three rfl
theorem prefixSs : Statement .prefixSs := one rfl
theorem unimp37 : Statement .unimp37 := one rfl
theorem cmpRm8Reg8 (rm : RM8) (reg : Reg8) : Statement (.cmpRm8Reg8 rm reg) := encRM8_length _ _ _ _ (by simp)
theorem cmpRm16Reg16 (rm : RM16) (reg : Reg16) : Statement (.cmpRm16Reg16 rm reg) := encRM16_length _ _ _ _ (by simp)
theorem cmpReg8Rm8 (reg : Reg8) (rm : RM8) : Statement (.cmpReg8Rm8 reg rm) := encRM8_length _ _ _ _ (by simp)
theorem cmpReg16Rm16 (reg : Reg16) (rm : RM16) : Statement (.cmpReg16Rm16 reg rm) := encRM16_length _ _ _ _ (by simp)
theorem cmpAlImm8 (imm : Byte) : Statement (.cmpAlImm8 imm) := two rfl
theorem cmpAwImm16 (imm : Word) : Statement (.cmpAwImm16 imm) := three rfl
theorem prefixDs0 : Statement .prefixDs0 := one rfl
theorem unimp3F : Statement .unimp3F := one rfl
theorem incReg16 (reg : Reg16) : Statement (.incReg16 reg) := one rfl
theorem decReg16 (reg : Reg16) : Statement (.decReg16 reg) := one rfl
theorem pushReg16 (reg : Reg16) : Statement (.pushReg16 reg) := one rfl
theorem popReg16 (reg : Reg16) : Statement (.popReg16 reg) := one rfl
theorem unimp60 : Statement .unimp60 := one rfl
theorem unimp61 : Statement .unimp61 := one rfl
theorem unimp62 : Statement .unimp62 := one rfl
theorem unimp63 : Statement .unimp63 := one rfl
theorem unimp64 : Statement .unimp64 := one rfl
theorem unimp65 : Statement .unimp65 := one rfl
theorem unimp66 : Statement .unimp66 := one rfl
theorem unimp67 : Statement .unimp67 := one rfl
theorem unimp68 : Statement .unimp68 := one rfl
theorem unimp69 : Statement .unimp69 := one rfl
theorem unimp6A : Statement .unimp6A := one rfl
theorem unimp6B : Statement .unimp6B := one rfl
theorem inmByte : Statement .inmByte := one rfl
theorem inmWord : Statement .inmWord := one rfl
theorem outmByte : Statement .outmByte := one rfl
theorem outmWord : Statement .outmWord := one rfl
theorem bv (disp : Byte) : Statement (.bv disp) := two rfl
theorem bnv (disp : Byte) : Statement (.bnv disp) := two rfl
theorem bc (disp : Byte) : Statement (.bc disp) := two rfl
theorem bnc (disp : Byte) : Statement (.bnc disp) := two rfl
theorem be (disp : Byte) : Statement (.be disp) := two rfl
theorem bne (disp : Byte) : Statement (.bne disp) := two rfl
theorem bnh (disp : Byte) : Statement (.bnh disp) := two rfl
theorem bh (disp : Byte) : Statement (.bh disp) := two rfl
theorem bn (disp : Byte) : Statement (.bn disp) := two rfl
theorem bp (disp : Byte) : Statement (.bp disp) := two rfl
theorem bpe (disp : Byte) : Statement (.bpe disp) := two rfl
theorem bpo (disp : Byte) : Statement (.bpo disp) := two rfl
theorem blt (disp : Byte) : Statement (.blt disp) := two rfl
theorem bge (disp : Byte) : Statement (.bge disp) := two rfl
theorem ble (disp : Byte) : Statement (.ble disp) := two rfl
theorem bgt (disp : Byte) : Statement (.bgt disp) := two rfl
theorem addRm8Imm8 (rm : RM8) (imm : Byte) : Statement (.addRm8Imm8 rm imm) := encRM8_length _ _ _ _ (by simp)
theorem orRm8Imm8 (rm : RM8) (imm : Byte) : Statement (.orRm8Imm8 rm imm) := encRM8_length _ _ _ _ (by simp)
theorem addcRm8Imm8Unimp (rm : RM8) : Statement (.addcRm8Imm8Unimp rm) := encRM8_length _ _ _ _ (by simp)
theorem subcRm8Imm8Unimp (rm : RM8) : Statement (.subcRm8Imm8Unimp rm) := encRM8_length _ _ _ _ (by simp)
theorem andRm8Imm8 (rm : RM8) (imm : Byte) : Statement (.andRm8Imm8 rm imm) := encRM8_length _ _ _ _ (by simp)
theorem subRm8Imm8 (rm : RM8) (imm : Byte) : Statement (.subRm8Imm8 rm imm) := encRM8_length _ _ _ _ (by simp)
theorem xorRm8Imm8 (rm : RM8) (imm : Byte) : Statement (.xorRm8Imm8 rm imm) := encRM8_length _ _ _ _ (by simp)
theorem cmpRm8Imm8 (rm : RM8) (imm : Byte) : Statement (.cmpRm8Imm8 rm imm) := encRM8_length _ _ _ _ (by simp)
theorem addRm16Imm16 (rm : RM16) (imm : Word) : Statement (.addRm16Imm16 rm imm) :=
    encRM16_length _ _ _ _ (by simp [wordBytes])
theorem orRm16Imm16 (rm : RM16) (imm : Word) : Statement (.orRm16Imm16 rm imm) :=
    encRM16_length _ _ _ _ (by simp [wordBytes])
theorem addcRm16Imm16Unimp (rm : RM16) : Statement (.addcRm16Imm16Unimp rm) := encRM16_length _ _ _ _ (by simp)
theorem subcRm16Imm16Unimp (rm : RM16) : Statement (.subcRm16Imm16Unimp rm) := encRM16_length _ _ _ _ (by simp)
theorem andRm16Imm16 (rm : RM16) (imm : Word) : Statement (.andRm16Imm16 rm imm) :=
    encRM16_length _ _ _ _ (by simp [wordBytes])
theorem subRm16Imm16 (rm : RM16) (imm : Word) : Statement (.subRm16Imm16 rm imm) :=
    encRM16_length _ _ _ _ (by simp [wordBytes])
theorem xorRm16Imm16 (rm : RM16) (imm : Word) : Statement (.xorRm16Imm16 rm imm) :=
    encRM16_length _ _ _ _ (by simp [wordBytes])
theorem cmpRm16Imm16 (rm : RM16) (imm : Word) : Statement (.cmpRm16Imm16 rm imm) :=
    encRM16_length _ _ _ _ (by simp [wordBytes])
theorem unimp82 : Statement .unimp82 := one rfl
theorem addRm16Simm8 (rm : RM16) (imm : Byte) : Statement (.addRm16Simm8 rm imm) := encRM16_length _ _ _ _ (by simp)
theorem orRm16Simm8 (rm : RM16) (imm : Byte) : Statement (.orRm16Simm8 rm imm) := encRM16_length _ _ _ _ (by simp)
theorem addcRm16Simm8Unimp (rm : RM16) : Statement (.addcRm16Simm8Unimp rm) := encRM16_length _ _ _ _ (by simp)
theorem subcRm16Simm8Unimp (rm : RM16) : Statement (.subcRm16Simm8Unimp rm) := encRM16_length _ _ _ _ (by simp)
theorem andRm16Simm8 (rm : RM16) (imm : Byte) : Statement (.andRm16Simm8 rm imm) := encRM16_length _ _ _ _ (by simp)
theorem subRm16Simm8 (rm : RM16) (imm : Byte) : Statement (.subRm16Simm8 rm imm) := encRM16_length _ _ _ _ (by simp)
theorem xorRm16Simm8 (rm : RM16) (imm : Byte) : Statement (.xorRm16Simm8 rm imm) := encRM16_length _ _ _ _ (by simp)
theorem cmpRm16Simm8 (rm : RM16) (imm : Byte) : Statement (.cmpRm16Simm8 rm imm) := encRM16_length _ _ _ _ (by simp)
theorem unimp84 : Statement .unimp84 := one rfl
theorem unimp85 : Statement .unimp85 := one rfl
theorem unimp86 : Statement .unimp86 := one rfl
theorem unimp87 : Statement .unimp87 := one rfl
theorem movRm8Reg8 (rm : RM8) (reg : Reg8) : Statement (.movRm8Reg8 rm reg) := encRM8_length _ _ _ _ (by simp)
theorem movRm16Reg16 (rm : RM16) (reg : Reg16) : Statement (.movRm16Reg16 rm reg) := encRM16_length _ _ _ _ (by simp)
theorem movReg8Rm8 (reg : Reg8) (rm : RM8) : Statement (.movReg8Rm8 reg rm) := encRM8_length _ _ _ _ (by simp)
theorem movReg16Rm16 (reg : Reg16) (rm : RM16) : Statement (.movReg16Rm16 reg rm) := encRM16_length _ _ _ _ (by simp)
theorem movRm16Sreg (rm : RM16) (src : SReg) : Statement (.movRm16Sreg rm src) := encRM16_length _ _ _ _ (by simp)
theorem movRm16SregUndef (rm : RM16) (code : BitVec 3) : Statement (.movRm16SregUndef rm code) :=
    encRM16_length _ _ _ _ (by simp)
theorem unimp8D : Statement .unimp8D := one rfl
theorem movDs1Rm16 (rm : RM16) : Statement (.movDs1Rm16 rm) := encRM16_length _ _ _ _ (by simp)
theorem movPsRm16Undef (rm : RM16) : Statement (.movPsRm16Undef rm) := encRM16_length _ _ _ _ (by simp)
theorem movSsDs0Rm16 (dst : SReg) (rm : RM16) : Statement (.movSsDs0Rm16 dst rm) := encRM16_length _ _ _ _ (by simp)
theorem movSregRm16Undef (rm : RM16) (code : BitVec 3) : Statement (.movSregRm16Undef rm code) :=
    encRM16_length _ _ _ _ (by simp)
theorem unimp8F : Statement .unimp8F := one rfl
theorem unimp90 : Statement .unimp90 := one rfl
theorem unimp91 : Statement .unimp91 := one rfl
theorem unimp92 : Statement .unimp92 := one rfl
theorem unimp93 : Statement .unimp93 := one rfl
theorem unimp94 : Statement .unimp94 := one rfl
theorem unimp95 : Statement .unimp95 := one rfl
theorem unimp96 : Statement .unimp96 := one rfl
theorem unimp97 : Statement .unimp97 := one rfl
theorem unimp98 : Statement .unimp98 := one rfl
theorem unimp99 : Statement .unimp99 := one rfl
theorem callFar (off : Word) (seg : Word) : Statement (.callFar off seg) := five rfl
theorem unimp9B : Statement .unimp9B := one rfl
theorem pushPsw : Statement .pushPsw := one rfl
theorem popPsw : Statement .popPsw := one rfl
theorem unimp9E : Statement .unimp9E := one rfl
theorem unimp9F : Statement .unimp9F := one rfl
theorem movAlDirect (addr : Word) : Statement (.movAlDirect addr) := three rfl
theorem movAwDirect (addr : Word) : Statement (.movAwDirect addr) := three rfl
theorem movDirectAl (addr : Word) : Statement (.movDirectAl addr) := three rfl
theorem movDirectAw (addr : Word) : Statement (.movDirectAw addr) := three rfl
theorem movbkByte : Statement .movbkByte := one rfl
theorem movbkWord : Statement .movbkWord := one rfl
theorem cmpbkByteUnimp : Statement .cmpbkByteUnimp := one rfl
theorem cmpbkWordUnimp : Statement .cmpbkWordUnimp := one rfl
theorem unimpA8 : Statement .unimpA8 := one rfl
theorem unimpA9 : Statement .unimpA9 := one rfl
theorem stmByte : Statement .stmByte := one rfl
theorem stmWord : Statement .stmWord := one rfl
theorem ldmByte : Statement .ldmByte := one rfl
theorem ldmWord : Statement .ldmWord := one rfl
theorem cmpmByteUnimp : Statement .cmpmByteUnimp := one rfl
theorem cmpmWordUnimp : Statement .cmpmWordUnimp := one rfl
theorem movReg8Imm8 (reg : Reg8) (imm : Byte) : Statement (.movReg8Imm8 reg imm) := two rfl
theorem movReg16Imm16 (reg : Reg16) (imm : Word) : Statement (.movReg16Imm16 reg imm) := three rfl
theorem rolRm8Imm8 (rm : RM8) (count : Byte) : Statement (.rolRm8Imm8 rm count) := encRM8_length _ _ _ _ (by simp)
theorem rorRm8Imm8 (rm : RM8) (count : Byte) : Statement (.rorRm8Imm8 rm count) := encRM8_length _ _ _ _ (by simp)
theorem rolcRm8Imm8 (rm : RM8) (count : Byte) : Statement (.rolcRm8Imm8 rm count) := encRM8_length _ _ _ _ (by simp)
theorem rorcRm8Imm8 (rm : RM8) (count : Byte) : Statement (.rorcRm8Imm8 rm count) := encRM8_length _ _ _ _ (by simp)
theorem shlRm8Imm8 (rm : RM8) (count : Byte) : Statement (.shlRm8Imm8 rm count) := encRM8_length _ _ _ _ (by simp)
theorem shrRm8Imm8 (rm : RM8) (count : Byte) : Statement (.shrRm8Imm8 rm count) := encRM8_length _ _ _ _ (by simp)
theorem shiftC0Undef (rm : RM8) : Statement (.shiftC0Undef rm) := encRM8_length _ _ _ _ (by simp)
theorem shraRm8Imm8 (rm : RM8) (count : Byte) : Statement (.shraRm8Imm8 rm count) := encRM8_length _ _ _ _ (by simp)
theorem rolRm16Imm8 (rm : RM16) (count : Byte) : Statement (.rolRm16Imm8 rm count) := encRM16_length _ _ _ _ (by simp)
theorem rorRm16Imm8 (rm : RM16) (count : Byte) : Statement (.rorRm16Imm8 rm count) := encRM16_length _ _ _ _ (by simp)
theorem rolcRm16Imm8 (rm : RM16) (count : Byte) : Statement (.rolcRm16Imm8 rm count) := encRM16_length _ _ _ _ (by simp)
theorem rorcRm16Imm8 (rm : RM16) (count : Byte) : Statement (.rorcRm16Imm8 rm count) := encRM16_length _ _ _ _ (by simp)
theorem shlRm16Imm8 (rm : RM16) (count : Byte) : Statement (.shlRm16Imm8 rm count) := encRM16_length _ _ _ _ (by simp)
theorem shrRm16Imm8 (rm : RM16) (count : Byte) : Statement (.shrRm16Imm8 rm count) := encRM16_length _ _ _ _ (by simp)
theorem shiftC1Undef (rm : RM16) : Statement (.shiftC1Undef rm) := encRM16_length _ _ _ _ (by simp)
theorem shraRm16Imm8 (rm : RM16) (count : Byte) : Statement (.shraRm16Imm8 rm count) := encRM16_length _ _ _ _ (by simp)
theorem unimpC2 : Statement .unimpC2 := one rfl
theorem retNear : Statement .retNear := one rfl
theorem unimpC4 : Statement .unimpC4 := one rfl
theorem unimpC5 : Statement .unimpC5 := one rfl
theorem movRm8Imm8 (rm : RM8) (imm : Byte) : Statement (.movRm8Imm8 rm imm) := encRM8_length _ _ _ _ (by simp)
theorem movC6Undef1 (rm : RM8) : Statement (.movC6Undef1 rm) := encRM8_length _ _ _ _ (by simp)
theorem movC6Undef2to3 (rm : RM8) (code : BitVec 3) : Statement (.movC6Undef2to3 rm code) :=
    encRM8_length _ _ _ _ (by simp)
theorem movC6Undef4to7 (rm : RM8) (code : BitVec 3) : Statement (.movC6Undef4to7 rm code) :=
    encRM8_length _ _ _ _ (by simp)
theorem movRm16Imm16 (rm : RM16) (imm : Word) : Statement (.movRm16Imm16 rm imm) :=
    encRM16_length _ _ _ _ (by simp [wordBytes])
theorem movC7Undef1 (rm : RM16) : Statement (.movC7Undef1 rm) := encRM16_length _ _ _ _ (by simp)
theorem movC7Undef2to3 (rm : RM16) (code : BitVec 3) : Statement (.movC7Undef2to3 rm code) :=
    encRM16_length _ _ _ _ (by simp)
theorem movC7Undef4to7 (rm : RM16) (code : BitVec 3) : Statement (.movC7Undef4to7 rm code) :=
    encRM16_length _ _ _ _ (by simp)
theorem unimpC8 : Statement .unimpC8 := one rfl
theorem unimpC9 : Statement .unimpC9 := one rfl
theorem unimpCA : Statement .unimpCA := one rfl
theorem retFar : Statement .retFar := one rfl
theorem unimpCC : Statement .unimpCC := one rfl
theorem unimpCD : Statement .unimpCD := one rfl
theorem unimpCE : Statement .unimpCE := one rfl
theorem unimpCF : Statement .unimpCF := one rfl
theorem rolRm8One (rm : RM8) : Statement (.rolRm8One rm) := encRM8_length _ _ _ _ (by simp)
theorem rorRm8One (rm : RM8) : Statement (.rorRm8One rm) := encRM8_length _ _ _ _ (by simp)
theorem rolcRm8One (rm : RM8) : Statement (.rolcRm8One rm) := encRM8_length _ _ _ _ (by simp)
theorem rorcRm8One (rm : RM8) : Statement (.rorcRm8One rm) := encRM8_length _ _ _ _ (by simp)
theorem shlRm8One (rm : RM8) : Statement (.shlRm8One rm) := encRM8_length _ _ _ _ (by simp)
theorem shrRm8One (rm : RM8) : Statement (.shrRm8One rm) := encRM8_length _ _ _ _ (by simp)
theorem shiftD0Undef (rm : RM8) : Statement (.shiftD0Undef rm) := encRM8_length _ _ _ _ (by simp)
theorem shraRm8One (rm : RM8) : Statement (.shraRm8One rm) := encRM8_length _ _ _ _ (by simp)
theorem rolRm16One (rm : RM16) : Statement (.rolRm16One rm) := encRM16_length _ _ _ _ (by simp)
theorem rorRm16One (rm : RM16) : Statement (.rorRm16One rm) := encRM16_length _ _ _ _ (by simp)
theorem rolcRm16One (rm : RM16) : Statement (.rolcRm16One rm) := encRM16_length _ _ _ _ (by simp)
theorem rorcRm16One (rm : RM16) : Statement (.rorcRm16One rm) := encRM16_length _ _ _ _ (by simp)
theorem shlRm16One (rm : RM16) : Statement (.shlRm16One rm) := encRM16_length _ _ _ _ (by simp)
theorem shrRm16One (rm : RM16) : Statement (.shrRm16One rm) := encRM16_length _ _ _ _ (by simp)
theorem shiftD1Undef (rm : RM16) : Statement (.shiftD1Undef rm) := encRM16_length _ _ _ _ (by simp)
theorem shraRm16One (rm : RM16) : Statement (.shraRm16One rm) := encRM16_length _ _ _ _ (by simp)
theorem rolRm8Cl (rm : RM8) : Statement (.rolRm8Cl rm) := encRM8_length _ _ _ _ (by simp)
theorem rorRm8Cl (rm : RM8) : Statement (.rorRm8Cl rm) := encRM8_length _ _ _ _ (by simp)
theorem rolcRm8Cl (rm : RM8) : Statement (.rolcRm8Cl rm) := encRM8_length _ _ _ _ (by simp)
theorem rorcRm8Cl (rm : RM8) : Statement (.rorcRm8Cl rm) := encRM8_length _ _ _ _ (by simp)
theorem shlRm8Cl (rm : RM8) : Statement (.shlRm8Cl rm) := encRM8_length _ _ _ _ (by simp)
theorem shrRm8Cl (rm : RM8) : Statement (.shrRm8Cl rm) := encRM8_length _ _ _ _ (by simp)
theorem shiftD2Undef (rm : RM8) : Statement (.shiftD2Undef rm) := encRM8_length _ _ _ _ (by simp)
theorem shraRm8Cl (rm : RM8) : Statement (.shraRm8Cl rm) := encRM8_length _ _ _ _ (by simp)
theorem rolRm16Cl (rm : RM16) : Statement (.rolRm16Cl rm) := encRM16_length _ _ _ _ (by simp)
theorem rorRm16Cl (rm : RM16) : Statement (.rorRm16Cl rm) := encRM16_length _ _ _ _ (by simp)
theorem rolcRm16Cl (rm : RM16) : Statement (.rolcRm16Cl rm) := encRM16_length _ _ _ _ (by simp)
theorem rorcRm16Cl (rm : RM16) : Statement (.rorcRm16Cl rm) := encRM16_length _ _ _ _ (by simp)
theorem shlRm16Cl (rm : RM16) : Statement (.shlRm16Cl rm) := encRM16_length _ _ _ _ (by simp)
theorem shrRm16Cl (rm : RM16) : Statement (.shrRm16Cl rm) := encRM16_length _ _ _ _ (by simp)
theorem shiftD3Undef (rm : RM16) : Statement (.shiftD3Undef rm) := encRM16_length _ _ _ _ (by simp)
theorem shraRm16Cl (rm : RM16) : Statement (.shraRm16Cl rm) := encRM16_length _ _ _ _ (by simp)
theorem unimpD4 : Statement .unimpD4 := one rfl
theorem unimpD5 : Statement .unimpD5 := one rfl
theorem unimpD6 : Statement .unimpD6 := one rfl
theorem unimpD7 : Statement .unimpD7 := one rfl
theorem unimpD8 : Statement .unimpD8 := one rfl
theorem unimpD9 : Statement .unimpD9 := one rfl
theorem unimpDA : Statement .unimpDA := one rfl
theorem unimpDB : Statement .unimpDB := one rfl
theorem unimpDC : Statement .unimpDC := one rfl
theorem unimpDD : Statement .unimpDD := one rfl
theorem unimpDE : Statement .unimpDE := one rfl
theorem unimpDF : Statement .unimpDF := one rfl
theorem unimpE0 : Statement .unimpE0 := one rfl
theorem unimpE1 : Statement .unimpE1 := one rfl
theorem unimpE2 : Statement .unimpE2 := one rfl
theorem unimpE3 : Statement .unimpE3 := one rfl
theorem inAlImm8 (port : Byte) : Statement (.inAlImm8 port) := two rfl
theorem inAwImm8 (port : Byte) : Statement (.inAwImm8 port) := two rfl
theorem outImm8Al (port : Byte) : Statement (.outImm8Al port) := two rfl
theorem outImm8Aw (port : Byte) : Statement (.outImm8Aw port) := two rfl
theorem callNear (disp : Word) : Statement (.callNear disp) := three rfl
theorem brNear (disp : Word) : Statement (.brNear disp) := three rfl
theorem brFar (off : Word) (seg : Word) : Statement (.brFar off seg) := five rfl
theorem brShort (disp : Byte) : Statement (.brShort disp) := two rfl
theorem inAlDw : Statement .inAlDw := one rfl
theorem inAwDw : Statement .inAwDw := one rfl
theorem outDwAl : Statement .outDwAl := one rfl
theorem outDwAw : Statement .outDwAw := one rfl
theorem unimpF0 : Statement .unimpF0 := one rfl
theorem unimpF1 : Statement .unimpF1 := one rfl
theorem unimpF2 : Statement .unimpF2 := one rfl
theorem repUnimp00 (follower : Byte) : Statement (.repUnimp00 follower) := two rfl
theorem repUnimp40 (follower : Byte) : Statement (.repUnimp40 follower) := two rfl
theorem repUnimp60 (follower : Byte) : Statement (.repUnimp60 follower) := two rfl
theorem repUnimp68 (follower : Byte) : Statement (.repUnimp68 follower) := two rfl
theorem repInmByte : Statement .repInmByte := two rfl
theorem repInmWord : Statement .repInmWord := two rfl
theorem repOutmByte : Statement .repOutmByte := two rfl
theorem repOutmWord : Statement .repOutmWord := two rfl
theorem repUnimp70 (follower : Byte) : Statement (.repUnimp70 follower) := two rfl
theorem repUnimp80 (follower : Byte) : Statement (.repUnimp80 follower) := two rfl
theorem repUnimpA0 (follower : Byte) : Statement (.repUnimpA0 follower) := two rfl
theorem repMovbkByte : Statement .repMovbkByte := two rfl
theorem repMovbkWord : Statement .repMovbkWord := two rfl
theorem repCmpbkByteUnimp : Statement .repCmpbkByteUnimp := two rfl
theorem repCmpbkWordUnimp : Statement .repCmpbkWordUnimp := two rfl
theorem repUnimpA8 (follower : Byte) : Statement (.repUnimpA8 follower) := two rfl
theorem repStmByte : Statement .repStmByte := two rfl
theorem repStmWord : Statement .repStmWord := two rfl
theorem repLdmByte : Statement .repLdmByte := two rfl
theorem repLdmWord : Statement .repLdmWord := two rfl
theorem repCmpmByteUnimp : Statement .repCmpmByteUnimp := two rfl
theorem repCmpmWordUnimp : Statement .repCmpmWordUnimp := two rfl
theorem repUnimpB0 (follower : Byte) : Statement (.repUnimpB0 follower) := two rfl
theorem repUnimpC0 (follower : Byte) : Statement (.repUnimpC0 follower) := two rfl
theorem unimpF4 : Statement .unimpF4 := one rfl
theorem unimpF5 : Statement .unimpF5 := one rfl
theorem groupF6Unimp0to3 (rm : RM8) (code : BitVec 3) : Statement (.groupF6Unimp0to3 rm code) :=
    encRM8_length _ _ _ _ (by simp)
theorem groupF6Unimp4to5 (rm : RM8) (code : BitVec 3) : Statement (.groupF6Unimp4to5 rm code) :=
    encRM8_length _ _ _ _ (by simp)
theorem divuRm8 (rm : RM8) : Statement (.divuRm8 rm) := encRM8_length _ _ _ _ (by simp)
theorem divRm8 (rm : RM8) : Statement (.divRm8 rm) := encRM8_length _ _ _ _ (by simp)
theorem groupF7Unimp0to3 (rm : RM16) (code : BitVec 3) : Statement (.groupF7Unimp0to3 rm code) :=
    encRM16_length _ _ _ _ (by simp)
theorem groupF7Unimp4to5 (rm : RM16) (code : BitVec 3) : Statement (.groupF7Unimp4to5 rm code) :=
    encRM16_length _ _ _ _ (by simp)
theorem divuRm16 (rm : RM16) : Statement (.divuRm16 rm) := encRM16_length _ _ _ _ (by simp)
theorem divRm16 (rm : RM16) : Statement (.divRm16 rm) := encRM16_length _ _ _ _ (by simp)
theorem unimpF8 : Statement .unimpF8 := one rfl
theorem unimpF9 : Statement .unimpF9 := one rfl
theorem unimpFA : Statement .unimpFA := one rfl
theorem unimpFB : Statement .unimpFB := one rfl
theorem unimpFC : Statement .unimpFC := one rfl
theorem unimpFD : Statement .unimpFD := one rfl
theorem unimpFE : Statement .unimpFE := one rfl
theorem unimpFF : Statement .unimpFF := one rfl

end Sys2Proof.Laws.EncodedLength
end

