-- ==== Sys2Proof/Laws/Run.lean ====
section
/-! SUPPORT. How runs compose (60_exceptions.md R321). -/

namespace Sys2Proof.Machine

@[simp] theorem run_zero (s : State) : run 0 s = s := rfl

theorem run_succ_of_next {s t : State} (h : step s = .next t) (n : Nat) : run (n + 1) s = run n t := by simp [run, h]

theorem run_succ_of_fault {s : State} {f : Fault} (h : step s = .fault f) (n : Nat) : run (n + 1) s = s := by simp [run, h]

theorem run_succ_of_refused {s : State} {r : Refusal} (h : step s = .refused r) (n : Nat) : run (n + 1) s = s := by
  simp [run, h]

end Sys2Proof.Machine
end

