-- ==== Sys2Proof/Tests/Slice0.lean ====
section
/-! SUPPORT. Tests: the well-formedness smoke tests, the decoding of a word written out from the spec for every row of the
table, vectors of spec/95_test_vectors.md section 2 (each names its own) and a witness for every statement that has
hypotheses. -/

namespace Sys2Proof.Tests

open Sys2Proof.Machine

/-! ## Ill-formed terms are refused -/

/-- Mode 0 with memory field 6 is the direct address: no form `[BP]` without displacement (30_encoding.md R73). -/
theorem test_wf_refuses_bp_without_displacement : WellFormed (.addRm8Reg8 (.mem .bp) .al) = false := by decide
theorem test_wf_accepts_bp_with_displacement : WellFormed (.addRm8Reg8 (.mem8 .bp 0) .al) = true := by decide

/-- The register field of the undefined forms of 8C is 4 to 7. -/
theorem test_wf_refuses_sreg_code_3 : WellFormed (.movRm16SregUndef (.reg .aw) 3) = false := by decide
theorem test_wf_refuses_sreg_code_bp : WellFormed (.movSregRm16Undef (.mem .bp) 4) = false := by decide

/-- 8E with register field 2 or 3 is SS or DS0; DS1 has its own constructor and PS none that runs. -/
theorem test_wf_refuses_mov_to_ps : WellFormed (.movSsDs0Rm16 .ps (.reg .aw)) = false := by decide
theorem test_wf_refuses_mov_to_ds1 : WellFormed (.movSsDs0Rm16 .ds1 (.reg .aw)) = false := by decide

/-- The register fields of the C6 and C7 rows. -/
theorem test_wf_refuses_c6_code_1 : WellFormed (.movC6Undef2to3 (.reg .al) 1) = false := by decide
theorem test_wf_refuses_c7_code_3 : WellFormed (.movC7Undef4to7 (.reg .aw) 3) = false := by decide

/-- The register fields of the F6 and F7 rows: 6 and 7 are the divisions. -/
theorem test_wf_refuses_f6_code_4 : WellFormed (.groupF6Unimp0to3 (.reg .al) 4) = false := by decide
theorem test_wf_refuses_f7_code_6 : WellFormed (.groupF7Unimp4to5 (.reg .aw) 6) = false := by decide

/-- The second bytes of the 0F rows leave out E0 and F0. -/
theorem test_wf_refuses_escape_bytes : [.escUnimp00 0x80, .escUnimp80 0xC0, .escUnimpC0 0xE0, .escUnimpE2 0xE0,
    .escUnimpE4 0xE8, .escUnimpE8 0xF0, .escUnimpF2 0xF0, .escUnimpF4 0xF8, .escUnimpF8 0xF7].all
    (fun i => !WellFormed i) = true := by decide

/-- The followers of the REP rows leave out the block opcodes. -/
theorem test_wf_refuses_rep_followers : [.repUnimp00 0x40, .repUnimp40 0x60, .repUnimp60 0x68, .repUnimp68 0x6C,
    .repUnimp70 0x80, .repUnimp80 0xA0, .repUnimpA0 0xA4, .repUnimpA8 0xAA, .repUnimpB0 0xC0, .repUnimpC0 0xBF].all
    (fun i => !WellFormed i) = true := by decide

/-! ## Decoding words written out from the spec's encodings -/

/-- Each byte list decodes to its instruction, leaving the byte after it. -/
def reads (cases : List (List Byte × Instr)) : Bool :=
  cases.all fun c => decide (decode (c.1 ++ [0x5A]) = .ok (c.2, [0x5A]))

/-- Bit by bit: opcode, then mode (2 bits), register (3), memory (3). -/
theorem test_bits_arith : decode [0b00000001, 0b01010101, 0b11111110] = .ok (.addRm16Reg16 (.mem8 .iy 0xFE) .dw, []) := by
  decide
theorem test_bits_group : decode [0b10000011, 0b11111011, 0b11111111] = .ok (.cmpRm16Simm8 (.reg .bw) 0xFF, []) := by decide
theorem test_bits_move : decode [0b10001110, 0b00010100] = .ok (.movSsDs0Rm16 .ss (.mem .ix), []) := by decide
theorem test_bits_stack : decode [0b01010011] = .ok (.pushReg16 .bw, []) := by decide
theorem test_bits_block : decode [0b11110011, 0b10101011] = .ok (.repStmWord, []) := by decide
theorem test_bits_control : decode [0b10011010, 0b00000000, 0b00100000, 0b00000000, 0b11100000] =
    .ok (.callFar 0x2000 0xE000, []) := by decide
theorem test_bits_branch : decode [0b01111100, 0b00010000] = .ok (.blt 0x10, []) := by decide
theorem test_bits_io : decode [0b11100111, 0b00100000] = .ok (.outImm8Aw 0x20, []) := by decide
theorem test_bits_shift : decode [0b11010011, 0b00101110, 0b00110100, 0b00010010] =
    .ok (.shrRm16Cl (.direct 0x1234), []) := by decide
theorem test_bits_extaddr : decode [0b00001111, 0b11110000, 0b00010001] = .ok (.retxa 0x11, []) := by decide
theorem test_bits_division : decode [0b11110111, 0b10111001, 0b00000010, 0b10000000] =
    .ok (.divRm16 (.mem16 .bwIy 0x8002), []) := by decide
theorem test_bits_prefix : decode [0b00110110] = .ok (.prefixSs, []) := by decide
theorem test_bits_unimplemented : decode [0b10000000, 0b11010000] = .ok (.addcRm8Imm8Unimp (.reg .al), []) := by decide

/-- The decoder refuses, by name, a list that ends inside an instruction. -/
theorem test_decode_truncated : decode [0xEA, 0x00, 0x01, 0x00] = .error .truncated := by decide

theorem test_decode_arith_1 : reads [
    ([0x00, 0xD1], .addRm8Reg8 (.reg .cl) .dl),
    ([0x01, 0x3C], .addRm16Reg16 (.mem .ix) .iy),
    ([0x02, 0x67, 0x8E], .addReg8Rm8 .ah (.mem8 .bw 0x8E)),
    ([0x03, 0x0E, 0x37, 0x15], .addReg16Rm16 .cw (.direct 0x1537)),
    ([0x04, 0x84], .addAlImm8 0x84),
    ([0x05, 0x05, 0xC3], .addAwImm16 0xC305),
    ([0x08, 0x16, 0x3C, 0x1A], .orRm8Reg8 (.direct 0x1A3C) .dl),
    ([0x09, 0xBC, 0x99, 0xFE], .orRm16Reg16 (.mem16 .ix 0xFE99) .iy),
    ([0x0A, 0xE7], .orReg8Rm8 .ah (.reg .bh)),
    ([0x0B, 0x0A], .orReg16Rm16 .cw (.mem .bpIx)),
    ([0x0C, 0x8C], .orAlImm8 0x8C),
    ([0x0D, 0x0D, 0xC3], .orAwImm16 0xC30D),
    ([0x20, 0xB5, 0xEC, 0x00], .andRm8Reg8 (.mem16 .iy 0x00EC) .dh),
    ([0x21, 0xD8], .andRm16Reg16 (.reg .aw) .bw),
    ([0x22, 0x03], .andReg8Rm8 .al (.mem .bpIy)),
    ([0x23, 0x6E, 0xC9], .andReg16Rm16 .bp (.mem8 .bp 0xC9)),
    ([0x24, 0xB0], .andAlImm8 0xB0),
    ([0x25, 0x31, 0xC3], .andAwImm16 0xC331),
    ([0x28, 0x75, 0xEC], .subRm8Reg8 (.mem8 .iy 0xEC) .dh),
    ([0x29, 0x1E, 0x69, 0x47], .subRm16Reg16 (.direct 0x4769) .bw),
    ([0x2A, 0x83, 0x96, 0x01], .subReg8Rm8 .al (.mem16 .bpIy 0x0196)),
    ([0x2B, 0xEE], .subReg16Rm16 .bp (.reg .ix)),
    ([0x2C, 0xB8], .subAlImm8 0xB8),
    ([0x2D, 0x39, 0xC3], .subAwImm16 0xC339),
    ([0x30, 0xF5], .xorRm8Reg8 (.reg .ch) .dh),
    ([0x31, 0x18], .xorRm16Reg16 (.mem .bwIx) .bw),
    ([0x32, 0x43, 0x32], .xorReg8Rm8 .al (.mem8 .bpIy 0x32)),
    ([0x33, 0x2E, 0x73, 0x51], .xorReg16Rm16 .bp (.direct 0x5173)),
    ([0x34, 0xC0], .xorAlImm8 0xC0),
    ([0x35, 0x41, 0xC3], .xorAwImm16 0xC341)] = true := by decide

theorem test_decode_arith_2 : reads [
    ([0x38, 0x36, 0x78, 0x56], .cmpRm8Reg8 (.direct 0x5678) .dh),
    ([0x39, 0x98, 0x95, 0x02], .cmpRm16Reg16 (.mem16 .bwIx 0x0295) .bw),
    ([0x3A, 0xC3], .cmpReg8Rm8 .al (.reg .bl)),
    ([0x3B, 0x2F], .cmpReg16Rm16 .bp (.mem .bw)),
    ([0x3C, 0xC8], .cmpAlImm8 0xC8),
    ([0x3D, 0x49, 0xC3], .cmpAwImm16 0xC349),
    ([0x44], .incReg16 .sp),
    ([0x4D], .decReg16 .bp),
    ([0x80, 0x41, 0x90, 0x60], .addRm8Imm8 (.mem8 .bwIy 0x90) 0x60),
    ([0x80, 0x0E, 0xA5, 0x83, 0x61], .orRm8Imm8 (.direct 0x83A5) 0x61),
    ([0x80, 0x25, 0x64], .andRm8Imm8 (.mem .iy) 0x64),
    ([0x80, 0x68, 0xB3, 0x65], .subRm8Imm8 (.mem8 .bwIx 0xB3) 0x65),
    ([0x80, 0x36, 0xAA, 0x88, 0x66], .xorRm8Imm8 (.direct 0x88AA) 0x66),
    ([0x80, 0xBE, 0xE7, 0x05, 0x67], .cmpRm8Imm8 (.mem16 .bp 0x05E7) 0x67),
    ([0x81, 0xC1, 0x78, 0xA5], .addRm16Imm16 (.reg .cw) 0xA578),
    ([0x81, 0x0C, 0x79, 0xA5], .orRm16Imm16 (.mem .ix) 0xA579),
    ([0x81, 0xA5, 0x3C, 0x06, 0x7C, 0xA5], .andRm16Imm16 (.mem16 .iy 0x063C) 0xA57C),
    ([0x81, 0xE8, 0x7D, 0xA5], .subRm16Imm16 (.reg .aw) 0xA57D),
    ([0x81, 0x33, 0x7E, 0xA5], .xorRm16Imm16 (.mem .bpIy) 0xA57E),
    ([0x81, 0x7E, 0xF9, 0x7F, 0xA5], .cmpRm16Imm16 (.mem8 .bp 0xF9) 0xA57F),
    ([0x83, 0x84, 0x91, 0x06, 0x71], .addRm16Simm8 (.mem16 .ix 0x0691) 0x71),
    ([0x83, 0xCF, 0x72], .orRm16Simm8 (.reg .iy) 0x72),
    ([0x83, 0x26, 0xB9, 0x97, 0x75], .andRm16Simm8 (.direct 0x97B9) 0x75),
    ([0x83, 0xAB, 0xE6, 0x06, 0x76], .subRm16Simm8 (.mem16 .bpIy 0x06E6) 0x76),
    ([0x83, 0xF6, 0x77], .xorRm16Simm8 (.reg .ix) 0x77),
    ([0x83, 0x39, 0x78], .cmpRm16Simm8 (.mem .bwIy) 0x78)] = true := by decide

theorem test_decode_stack_1 : reads [
    ([0x06], .pushDs1),
    ([0x07], .popDs1),
    ([0x0E], .pushPs),
    ([0x16], .pushSs),
    ([0x17], .popSs),
    ([0x1E], .pushDs0),
    ([0x1F], .popDs0),
    ([0x56], .pushReg16 .ix),
    ([0x5F], .popReg16 .iy),
    ([0x9C], .pushPsw),
    ([0x9D], .popPsw)] = true := by decide

theorem test_decode_unimp_1 : reads [
    ([0x0F, 0x7F], .escUnimp00 0x7F),
    ([0x0F, 0xBF], .escUnimp80 0xBF),
    ([0x0F, 0xDF], .escUnimpC0 0xDF),
    ([0x0F, 0xE1], .escUnimpE1),
    ([0x0F, 0xE3], .escUnimpE2 0xE3),
    ([0x0F, 0xE7], .escUnimpE4 0xE7),
    ([0x0F, 0xEF], .escUnimpE8 0xEF),
    ([0x0F, 0xF1], .escUnimpF1),
    ([0x0F, 0xF3], .escUnimpF2 0xF3),
    ([0x0F, 0xF7], .escUnimpF4 0xF7),
    ([0x0F, 0xFF], .escUnimpF8 0xFF),
    ([0x10], .unimp10),
    ([0x11], .unimp11),
    ([0x12], .unimp12),
    ([0x13], .unimp13),
    ([0x14], .unimp14),
    ([0x15], .unimp15),
    ([0x18], .unimp18),
    ([0x19], .unimp19),
    ([0x1A], .unimp1A),
    ([0x1B], .unimp1B),
    ([0x1C], .unimp1C),
    ([0x1D], .unimp1D),
    ([0x27], .unimp27),
    ([0x2F], .unimp2F),
    ([0x37], .unimp37),
    ([0x3F], .unimp3F),
    ([0x60], .unimp60),
    ([0x61], .unimp61),
    ([0x62], .unimp62)] = true := by decide

theorem test_decode_unimp_2 : reads [
    ([0x63], .unimp63),
    ([0x64], .unimp64),
    ([0x65], .unimp65),
    ([0x66], .unimp66),
    ([0x67], .unimp67),
    ([0x68], .unimp68),
    ([0x69], .unimp69),
    ([0x6A], .unimp6A),
    ([0x6B], .unimp6B),
    ([0x80, 0x97, 0x92, 0x05], .addcRm8Imm8Unimp (.mem16 .bw 0x0592)),
    ([0x80, 0xDA], .subcRm8Imm8Unimp (.reg .dl)),
    ([0x81, 0x57, 0xD6], .addcRm16Imm16Unimp (.mem8 .bw 0xD6)),
    ([0x81, 0x1E, 0xAF, 0x8D], .subcRm16Imm16Unimp (.direct 0x8DAF)),
    ([0x82], .unimp82),
    ([0x83, 0x12], .addcRm16Simm8Unimp (.mem .bpIx)),
    ([0x83, 0x5D, 0x1C], .subcRm16Simm8Unimp (.mem8 .iy 0x1C)),
    ([0x84], .unimp84),
    ([0x85], .unimp85),
    ([0x86], .unimp86),
    ([0x87], .unimp87),
    ([0x8D], .unimp8D),
    ([0x8F], .unimp8F),
    ([0x90], .unimp90),
    ([0x91], .unimp91),
    ([0x92], .unimp92),
    ([0x93], .unimp93),
    ([0x94], .unimp94),
    ([0x95], .unimp95),
    ([0x96], .unimp96),
    ([0x97], .unimp97)] = true := by decide

theorem test_decode_unimp_3 : reads [
    ([0x98], .unimp98),
    ([0x99], .unimp99),
    ([0x9B], .unimp9B),
    ([0x9E], .unimp9E),
    ([0x9F], .unimp9F),
    ([0xA6], .cmpbkByteUnimp),
    ([0xA7], .cmpbkWordUnimp),
    ([0xA8], .unimpA8),
    ([0xA9], .unimpA9),
    ([0xAE], .cmpmByteUnimp),
    ([0xAF], .cmpmWordUnimp),
    ([0xC2], .unimpC2),
    ([0xC4], .unimpC4),
    ([0xC5], .unimpC5),
    ([0xC8], .unimpC8),
    ([0xC9], .unimpC9),
    ([0xCA], .unimpCA),
    ([0xCC], .unimpCC),
    ([0xCD], .unimpCD),
    ([0xCE], .unimpCE),
    ([0xCF], .unimpCF),
    ([0xD4], .unimpD4),
    ([0xD5], .unimpD5),
    ([0xD6], .unimpD6),
    ([0xD7], .unimpD7),
    ([0xD8], .unimpD8),
    ([0xD9], .unimpD9),
    ([0xDA], .unimpDA),
    ([0xDB], .unimpDB),
    ([0xDC], .unimpDC)] = true := by decide

theorem test_decode_unimp_4 : reads [
    ([0xDD], .unimpDD),
    ([0xDE], .unimpDE),
    ([0xDF], .unimpDF),
    ([0xE0], .unimpE0),
    ([0xE1], .unimpE1),
    ([0xE2], .unimpE2),
    ([0xE3], .unimpE3),
    ([0xF0], .unimpF0),
    ([0xF1], .unimpF1),
    ([0xF2], .unimpF2),
    ([0xF3, 0x3F], .repUnimp00 0x3F),
    ([0xF3, 0x5F], .repUnimp40 0x5F),
    ([0xF3, 0x67], .repUnimp60 0x67),
    ([0xF3, 0x6B], .repUnimp68 0x6B),
    ([0xF3, 0x7F], .repUnimp70 0x7F),
    ([0xF3, 0x9F], .repUnimp80 0x9F),
    ([0xF3, 0xA3], .repUnimpA0 0xA3),
    ([0xF3, 0xA6], .repCmpbkByteUnimp),
    ([0xF3, 0xA7], .repCmpbkWordUnimp),
    ([0xF3, 0xA9], .repUnimpA8 0xA9),
    ([0xF3, 0xAE], .repCmpmByteUnimp),
    ([0xF3, 0xAF], .repCmpmWordUnimp),
    ([0xF3, 0xBF], .repUnimpB0 0xBF),
    ([0xF3, 0xFF], .repUnimpC0 0xFF),
    ([0xF4], .unimpF4),
    ([0xF5], .unimpF5),
    ([0xF6, 0x59, 0x08], .groupF6Unimp0to3 (.mem8 .bwIy 0x08) 3),
    ([0xF6, 0x2E, 0x6D, 0x4C], .groupF6Unimp4to5 (.direct 0x4C6D) 5),
    ([0xF7, 0x1D], .groupF7Unimp0to3 (.mem .iy) 3),
    ([0xF7, 0x68, 0x2B], .groupF7Unimp4to5 (.mem8 .bwIx 0x2B) 5)] = true := by decide

theorem test_decode_unimp_5 : reads [
    ([0xF8], .unimpF8),
    ([0xF9], .unimpF9),
    ([0xFA], .unimpFA),
    ([0xFB], .unimpFB),
    ([0xFC], .unimpFC),
    ([0xFD], .unimpFD),
    ([0xFE], .unimpFE),
    ([0xFF], .unimpFF)] = true := by decide

theorem test_decode_extaddr_1 : reads [
    ([0x0F, 0xE0, 0x14], .brkxa 0x14),
    ([0x0F, 0xF0, 0x12], .retxa 0x12)] = true := by decide

theorem test_decode_prefix_1 : reads [
    ([0x26], .prefixDs1),
    ([0x2E], .prefixPs),
    ([0x36], .prefixSs),
    ([0x3E], .prefixDs0)] = true := by decide

theorem test_decode_block_1 : reads [
    ([0x6C], .inmByte),
    ([0x6D], .inmWord),
    ([0x6E], .outmByte),
    ([0x6F], .outmWord),
    ([0xA4], .movbkByte),
    ([0xA5], .movbkWord),
    ([0xAA], .stmByte),
    ([0xAB], .stmWord),
    ([0xAC], .ldmByte),
    ([0xAD], .ldmWord),
    ([0xF3, 0x6C], .repInmByte),
    ([0xF3, 0x6D], .repInmWord),
    ([0xF3, 0x6E], .repOutmByte),
    ([0xF3, 0x6F], .repOutmWord),
    ([0xF3, 0xA4], .repMovbkByte),
    ([0xF3, 0xA5], .repMovbkWord),
    ([0xF3, 0xAA], .repStmByte),
    ([0xF3, 0xAB], .repStmWord),
    ([0xF3, 0xAC], .repLdmByte),
    ([0xF3, 0xAD], .repLdmWord)] = true := by decide

theorem test_decode_control_1 : reads [
    ([0x70, 0xE0], .bv 0xE0),
    ([0x71, 0xE1], .bnv 0xE1),
    ([0x72, 0xE2], .bc 0xE2),
    ([0x73, 0xE3], .bnc 0xE3),
    ([0x74, 0xE4], .be 0xE4),
    ([0x75, 0xE5], .bne 0xE5),
    ([0x76, 0xE6], .bnh 0xE6),
    ([0x77, 0xE7], .bh 0xE7),
    ([0x78, 0xE8], .bn 0xE8),
    ([0x79, 0xE9], .bp 0xE9),
    ([0x7A, 0xEA], .bpe 0xEA),
    ([0x7B, 0xEB], .bpo 0xEB),
    ([0x7C, 0xEC], .blt 0xEC),
    ([0x7D, 0xED], .bge 0xED),
    ([0x7E, 0xEE], .ble 0xEE),
    ([0x7F, 0xEF], .bgt 0xEF),
    ([0x9A, 0x34, 0x12, 0x00, 0xF0], .callFar 0x1234 0xF000),
    ([0xC3], .retNear),
    ([0xCB], .retFar),
    ([0xE8, 0x13, 0xC4], .callNear 0xC413),
    ([0xE9, 0x14, 0xC4], .brNear 0xC414),
    ([0xEA, 0x34, 0x12, 0x00, 0xF0], .brFar 0x1234 0xF000),
    ([0xEB, 0x96], .brShort 0x96)] = true := by decide

theorem test_decode_move_1 : reads [
    ([0x88, 0x18], .movRm8Reg8 (.mem .bwIx) .bl),
    ([0x89, 0x43, 0x62], .movRm16Reg16 (.mem8 .bpIy 0x62) .aw),
    ([0x8A, 0x2E, 0xC3, 0xA1], .movReg8Rm8 .ch (.direct 0xA1C3)),
    ([0x8B, 0x91, 0x90, 0x07], .movReg16Rm16 .dw (.mem16 .bwIy 0x0790)),
    ([0x8C, 0xCC], .movRm16Sreg (.reg .sp) .ps),
    ([0x8C, 0x3F], .movRm16SregUndef (.mem .bw) 7),
    ([0x8E, 0x06, 0xC8, 0xA6], .movDs1Rm16 (.direct 0xA6C8)),
    ([0x8E, 0x88, 0xE5, 0x07], .movPsRm16Undef (.mem16 .bwIx 0x07E5)),
    ([0x8E, 0xDB], .movSsDs0Rm16 .ds0 (.reg .bw)),
    ([0x8E, 0x3F], .movSregRm16Undef (.mem .bw) 7),
    ([0xA0, 0xA9, 0xC3], .movAlDirect 0xC3A9),
    ([0xA1, 0xAA, 0xC3], .movAwDirect 0xC3AA),
    ([0xA2, 0xAB, 0xC3], .movDirectAl 0xC3AB),
    ([0xA3, 0xAC, 0xC3], .movDirectAw 0xC3AC),
    ([0xB6, 0x9A], .movReg8Imm8 .dh 0x9A),
    ([0xBF, 0x50, 0x01], .movReg16Imm16 .iy 0x0150),
    ([0xC6, 0x46, 0x29, 0xBF], .movRm8Imm8 (.mem8 .bp 0x29) 0xBF),
    ([0xC6, 0x0E, 0x04, 0xE3], .movC6Undef1 (.direct 0xE304)),
    ([0xC6, 0x9C, 0xE1, 0x0B], .movC6Undef2to3 (.mem16 .ix 0x0BE1) 3),
    ([0xC6, 0xFF], .movC6Undef4to7 (.reg .bh) 7),
    ([0xC7, 0x02, 0xD3, 0xA5], .movRm16Imm16 (.mem .bpIx) 0xA5D3),
    ([0xC7, 0x4D, 0x4C], .movC7Undef1 (.mem8 .iy 0x4C)),
    ([0xC7, 0x1E, 0x09, 0xE8], .movC7Undef2to3 (.direct 0xE809) 3),
    ([0xC7, 0xBB, 0x36, 0x0C], .movC7Undef4to7 (.mem16 .bpIy 0x0C36) 7)] = true := by decide

theorem test_decode_shift_1 : reads [
    ([0xC0, 0x42, 0x9D, 0xAB], .rolRm8Imm8 (.mem8 .bpIx 0x9D) 0xAB),
    ([0xC0, 0x0E, 0xF0, 0xCE, 0xAC], .rorRm8Imm8 (.direct 0xCEF0) 0xAC),
    ([0xC0, 0x90, 0x8D, 0x0A, 0xAD], .rolcRm8Imm8 (.mem16 .bwIx 0x0A8D) 0xAD),
    ([0xC0, 0xDB, 0xAE], .rorcRm8Imm8 (.reg .bl) 0xAE),
    ([0xC0, 0x27, 0xAF], .shlRm8Imm8 (.mem .bw) 0xAF),
    ([0xC0, 0x69, 0xC0, 0xB0], .shrRm8Imm8 (.mem8 .bwIy 0xC0) 0xB0),
    ([0xC0, 0x36, 0xF5, 0xD3], .shiftC0Undef (.direct 0xD3F5)),
    ([0xC0, 0xBF, 0xE2, 0x0A, 0xB2], .shraRm8Imm8 (.mem16 .bw 0x0AE2) 0xB2),
    ([0xC1, 0xC2, 0xB3], .rolRm16Imm8 (.reg .dw) 0xB3),
    ([0xC1, 0x0D, 0xB4], .rorRm16Imm8 (.mem .iy) 0xB4),
    ([0xC1, 0x50, 0xE3, 0xB5], .rolcRm16Imm8 (.mem8 .bwIx 0xE3) 0xB5),
    ([0xC1, 0x1E, 0xFA, 0xD8, 0xB6], .rorcRm16Imm8 (.direct 0xD8FA) 0xB6),
    ([0xC1, 0xA6, 0x37, 0x0B, 0xB7], .shlRm16Imm8 (.mem16 .bp 0x0B37) 0xB7),
    ([0xC1, 0xE9, 0xB8], .shrRm16Imm8 (.reg .cw) 0xB8),
    ([0xC1, 0x34], .shiftC1Undef (.mem .ix)),
    ([0xC1, 0x7F, 0x06, 0xBA], .shraRm16Imm8 (.mem8 .bw 0x06) 0xBA),
    ([0xD0, 0x06, 0x13, 0xF2], .rolRm8One (.direct 0xF213)),
    ([0xD0, 0x89, 0xE0, 0x0C], .rorRm8One (.mem16 .bwIy 0x0CE0)),
    ([0xD0, 0xD4], .rolcRm8One (.reg .ah)),
    ([0xD0, 0x1F], .rorcRm8One (.mem .bw)),
    ([0xD0, 0x62, 0xB5], .shlRm8One (.mem8 .bpIx 0xB5)),
    ([0xD0, 0x2E, 0x18, 0xF7], .shrRm8One (.direct 0xF718)),
    ([0xD0, 0xB0, 0x35, 0x0D], .shiftD0Undef (.mem16 .bwIx 0x0D35)),
    ([0xD0, 0xFB], .shraRm8One (.reg .bl)),
    ([0xD1, 0x07], .rolRm16One (.mem .bw)),
    ([0xD1, 0x49, 0xD8], .rorRm16One (.mem8 .bwIy 0xD8)),
    ([0xD1, 0x16, 0x1D, 0xFC], .rolcRm16One (.direct 0xFC1D)),
    ([0xD1, 0x9F, 0x8A, 0x0D], .rorcRm16One (.mem16 .bw 0x0D8A)),
    ([0xD1, 0xE2], .shlRm16One (.reg .dw)),
    ([0xD1, 0x2D], .shrRm16One (.mem .iy))] = true := by decide

theorem test_decode_shift_2 : reads [
    ([0xD1, 0x70, 0xFB], .shiftD1Undef (.mem8 .bwIx 0xFB)),
    ([0xD1, 0x3E, 0x22, 0x01], .shraRm16One (.direct 0x0122)),
    ([0xD2, 0x86, 0xDF, 0x0D], .rolRm8Cl (.mem16 .bp 0x0DDF)),
    ([0xD2, 0xC9], .rorRm8Cl (.reg .cl)),
    ([0xD2, 0x14], .rolcRm8Cl (.mem .ix)),
    ([0xD2, 0x5F, 0x1E], .rorcRm8Cl (.mem8 .bw 0x1E)),
    ([0xD2, 0x26, 0x27, 0x06], .shlRm8Cl (.direct 0x0627)),
    ([0xD2, 0xAD, 0x34, 0x0E], .shrRm8Cl (.mem16 .iy 0x0E34)),
    ([0xD2, 0xF0], .shiftD2Undef (.reg .al)),
    ([0xD2, 0x3B], .shraRm8Cl (.mem .bpIy)),
    ([0xD3, 0x46, 0x41], .rolRm16Cl (.mem8 .bp 0x41)),
    ([0xD3, 0x0E, 0x2C, 0x0B], .rorRm16Cl (.direct 0x0B2C)),
    ([0xD3, 0x94, 0x89, 0x0E], .rolcRm16Cl (.mem16 .ix 0x0E89)),
    ([0xD3, 0xDF], .rorcRm16Cl (.reg .iy)),
    ([0xD3, 0x22], .shlRm16Cl (.mem .bpIx)),
    ([0xD3, 0x6D, 0x64], .shrRm16Cl (.mem8 .iy 0x64)),
    ([0xD3, 0x36, 0x31, 0x10], .shiftD3Undef (.direct 0x1031)),
    ([0xD3, 0xBB, 0xDE, 0x0E], .shraRm16Cl (.mem16 .bpIy 0x0EDE))] = true := by decide

theorem test_decode_io_1 : reads [
    ([0xE4, 0x8F], .inAlImm8 0x8F),
    ([0xE5, 0x90], .inAwImm8 0x90),
    ([0xE6, 0x91], .outImm8Al 0x91),
    ([0xE7, 0x92], .outImm8Aw 0x92),
    ([0xEC], .inAlDw),
    ([0xED], .inAwDw),
    ([0xEE], .outDwAl),
    ([0xEF], .outDwAw)] = true := by decide

theorem test_decode_division_1 : reads [
    ([0xF6, 0xB7, 0xDA, 0x12], .divuRm8 (.mem16 .bw 0x12DA)),
    ([0xF6, 0xFA], .divRm8 (.reg .dl)),
    ([0xF7, 0x36, 0x72, 0x51], .divuRm16 (.direct 0x5172)),
    ([0xF7, 0xBE, 0x2F, 0x13], .divRm16 (.mem16 .bp 0x132F))] = true := by decide

/-! ## One step: vectors of spec/95_test_vectors.md -/

/-- The premise of the vectors: the reset state with PS 0 and PC 0x100. -/
def boot : State := { State.reset with ps := 0, pc := 0x0100 }

/-- The step answers a next state with this property. -/
def stepThat (s : State) (p : State → Bool) : Bool :=
  match step s with
  | .next t => p t
  | .fault _ | .refused _ => false

/-- V1: ADD AL,1 -/
theorem test_add_al_carries : stepThat (placeCode { boot with aw := 0x00FF } 0 [0x04, 0x01]) (fun t =>
    t.aw == 0x0000 && t.pc == 0x0102 && t.psw == 0xF045 && t.halted.isNone) = true := by decide

/-- V5: ADD [IY],DW -/
theorem test_add_memory_word : stepThat (placeCode
    { boot with iy := 0x0051, dw := 0x8888, memory := [(0x00051, 0x78), (0x00052, 0x78)] } 0 [0x01, 0x15]) (fun t
      =>
    t.pc == 0x0102 && t.psw == 0xF005 && Mem.read t.memory 0x00051 == 0x00 && Mem.read t.memory
    0x00052 == 0x01 && t.halted.isNone) = true := by decide

/-- V7: OR AL,0xF0 -/
theorem test_or_al : stepThat (placeCode { boot with aw := 0x000F } 0 [0x0C, 0xF0]) (fun t =>
    t.aw == 0x00FF && t.pc == 0x0102 && t.psw == 0xF084 && t.halted.isNone) = true := by decide

/-- V8: OR AW,0x8000 -/
theorem test_or_keeps_cy_v : stepThat (placeCode
    { boot with aw := 0x0001, psw := 0xF805 } 0 [0x0D, 0x00, 0x80]) (fun t =>
    t.aw == 0x8001 && t.pc == 0x0103 && t.psw == 0xF881 && t.halted.isNone) = true := by decide

/-- V10: AND BYTE [0x0020],0x0F -/
theorem test_and_memory_byte : stepThat (placeCode
    { boot with memory := [(0x00020, 0xF5)] } 0 [0x80, 0x26, 0x20, 0x00, 0x0F]) (fun t =>
    t.pc == 0x0105 && Mem.read t.memory 0x00020 == 0x05 && t.psw == 0xF004 && t.halted.isNone) = true := by decide

/-- V11: XOR AW,AW -/
theorem test_xor_self : stepThat (placeCode { boot with aw := 0x1234, psw := 0xF805 } 0 [0x31, 0xC0]) (fun t =>
    t.aw == 0x0000 && t.pc == 0x0102 && t.psw == 0xF845 && t.halted.isNone) = true := by decide

/-- V12: SUB AW,0x0006 -/
theorem test_sub_borrows : stepThat (placeCode { boot with aw := 0x0005 } 0 [0x2D, 0x06, 0x00]) (fun t =>
    t.aw == 0xFFFF && t.pc == 0x0103 && t.psw == 0xF085 && t.halted.isNone) = true := by decide

/-- V15: SUB CL,[IX] -/
theorem test_sub_from_memory : stepThat (placeCode
    { boot with cw := 0x0010, ix := 0x0030, memory := [(0x00030, 0x20)] } 0 [0x2A, 0x0C]) (fun t =>
    t.cw == 0x00F0 && t.pc == 0x0102 && t.psw == 0xF085 && t.halted.isNone) = true := by decide

/-- V17: CMP [BW],AL -/
theorem test_cmp_memory_untouched : stepThat (placeCode
    { boot with aw := 0x0006, bw := 0x0040, memory := [(0x00040, 0x05)] } 0 [0x38, 0x07]) (fun t =>
    t.pc == 0x0102 && t.psw == 0xF085 && t.halted.isNone) = true := by decide

/-- V20: CMP BW,-1 (83 /7) -/
theorem test_cmp_sign_extends : stepThat (placeCode { boot with bw := 0xFFFF } 0 [0x83, 0xFB, 0xFF]) (fun t =>
    t.pc == 0x0103 && t.psw == 0xF044 && t.halted.isNone) = true := by decide

/-- V21: ADD WORD [BP+IY+2],0x1234 (81 /0) -/
theorem test_add_memory_imm16 : stepThat (placeCode
    { boot with bp := 0x0010, iy := 0x0020, memory := [(0x00032, 0xFF), (0x00033, 0xFF)] } 0 [0x81, 0x43, 0x02,
      0x34, 0x12]) (fun t =>
    t.pc == 0x0105 && t.psw == 0xF005 && Mem.read t.memory 0x00032 == 0x33 && Mem.read t.memory
    0x00033 == 0x12 && t.halted.isNone) = true := by decide

/-- V23: INC AW -/
theorem test_inc_writes_cy : stepThat (placeCode { boot with aw := 0xFFFF } 0 [0x40]) (fun t =>
    t.aw == 0x0000 && t.pc == 0x0101 && t.psw == 0xF045 && t.halted.isNone) = true := by decide

/-- V24: INC AW -/
theorem test_inc_overflows : stepThat (placeCode { boot with aw := 0x7FFF } 0 [0x40]) (fun t =>
    t.aw == 0x8000 && t.pc == 0x0101 && t.psw == 0xF884 && t.halted.isNone) = true := by decide

/-- V26: DEC AW -/
theorem test_dec_writes_cy : stepThat (placeCode { boot with aw := 0x0000 } 0 [0x48]) (fun t =>
    t.aw == 0xFFFF && t.pc == 0x0101 && t.psw == 0xF085 && t.halted.isNone) = true := by decide

/-- V28: ADDC AL,AL (not implemented) -/
theorem test_addc_faults : stepThat (placeCode boot 0 [0x10, 0xC0]) (fun t =>
    t.halted == some (.unimplemented 0x10 none)) = true := by decide

/-- V29: ADDC AL,0 via 80 /2 (not implemented) -/
theorem test_addc_group_faults : stepThat (placeCode boot 0 [0x80, 0xD0, 0x00]) (fun t =>
    t.halted == some (.unimplemented 0x80 (some 0xD0))) = true := by decide

/-- V40: MOV BL,AH (88: r/m8 <- reg8) -/
theorem test_mov_byte_halves : stepThat (placeCode { boot with aw := 0x1234, bw := 0xFFFF } 0 [0x88, 0xE3]) (fun t =>
    t.bw == 0xFF12 && t.pc == 0x0102 && t.psw == 0xF004 && t.halted.isNone) = true := by decide

/-- V41: MOV [BP+IX-2],CW -/
theorem test_mov_store_bp_ix : stepThat (placeCode
    { boot with cw := 0xBEEF, bp := 0x0100, ix := 0x0010, ds0 := 0x1000, ss := 0x5000 } 0 [0x89, 0x4A, 0xFE]) (fun
      t =>
    t.pc == 0x0103 && Mem.read t.memory 0x1010E == 0xEF && Mem.read t.memory 0x1010F == 0xBE &&
    t.psw == 0xF004 && t.halted.isNone) = true := by decide

/-- V42: MOV AL,[BW+IY+0x8000] -/
theorem test_mov_load_disp16 : stepThat (placeCode
    { boot with aw := 0xFF00, bw := 0x9000, iy := 0x7000, memory := [(0x08000, 0x5A)] } 0 [0x8A, 0x81, 0x00,
      0x80]) (fun t =>
    t.aw == 0xFF5A && t.pc == 0x0104 && t.psw == 0xF004 && t.halted.isNone) = true := by decide

/-- V43: MOV AW,[0xFFFF] (word wraps in the segment) -/
theorem test_mov_word_wraps : stepThat (placeCode
    { boot with ds0 := 0x2000, memory := [(0x20000, 0x12), (0x2FFFF, 0x34)] } 0 [0xA1, 0xFF, 0xFF]) (fun t =>
    t.aw == 0x1234 && t.pc == 0x0103 && t.psw == 0xF004 && t.halted.isNone) = true := by decide

/-- V44: MOV [0xFFFF],AW -/
theorem test_mov_store_wraps : stepThat (placeCode
    { boot with aw := 0xCAFE, ds0 := 0x1000 } 0 [0xA3, 0xFF, 0xFF]) (fun t =>
    t.pc == 0x0103 && Mem.read t.memory 0x10000 == 0xCA && Mem.read t.memory 0x1FFFF == 0xFE &&
    t.psw == 0xF004 && t.halted.isNone) = true := by decide

/-- V45: MOV AL,[0x0010] (physical wrap) -/
theorem test_mov_physical_wrap : stepThat (placeCode
    { boot with ds0 := 0xFFFF, memory := [(0x00000, 0x42)] } 0 [0xA0, 0x10, 0x00]) (fun t =>
    t.aw == 0x0042 && t.pc == 0x0103 && t.psw == 0xF004 && t.halted.isNone) = true := by decide

/-- V46: MOV CW,DS0 -/
theorem test_mov_from_sreg : stepThat (placeCode { boot with ds0 := 0x1234 } 0 [0x8C, 0xD9]) (fun t =>
    t.cw == 0x1234 && t.pc == 0x0102 && t.psw == 0xF004 && t.halted.isNone) = true := by decide

/-- V47: MOV SS,[IX] -/
theorem test_mov_to_sreg : stepThat (placeCode
    { boot with ix := 0x0020, memory := [(0x00021, 0x30)] } 0 [0x8E, 0x14]) (fun t =>
    t.ss == 0x3000 && t.pc == 0x0102 && t.psw == 0xF004 && t.halted.isNone) = true := by decide

/-- V48: MOV BH,0xA5 -/
theorem test_mov_imm_half : stepThat (placeCode { boot with bw := 0x1111 } 0 [0xB7, 0xA5]) (fun t =>
    t.bw == 0xA511 && t.pc == 0x0102 && t.psw == 0xF004 && t.halted.isNone) = true := by decide

/-- V52: MOV WORD [0x0200],0xBEEF -/
theorem test_mov_memory_imm16 : stepThat (placeCode boot 0 [0xC7, 0x06, 0x00, 0x02, 0xEF, 0xBE]) (fun t =>
    t.pc == 0x0106 && Mem.read t.memory 0x00200 == 0xEF && Mem.read t.memory 0x00201 == 0xBE &&
    t.psw == 0xF004 && t.halted.isNone) = true := by decide

/-- V53: MOV PS,AW (undefined encoding) -/
theorem test_mov_ps_undefined : stepThat (placeCode { boot with aw := 0x1234 } 0 [0x8E, 0xC8]) (fun t =>
    t.halted == some (.undefinedEncoding 0x8E 0xC8)) = true := by decide

/-- V60: PUSH BW -/
theorem test_push_register : stepThat (placeCode
    { boot with bw := 0xABCD, sp := 0x0100, ss := 0x2000 } 0 [0x53]) (fun t =>
    t.sp == 0x00FE && t.pc == 0x0101 && Mem.read t.memory 0x200FE == 0xCD && Mem.read t.memory
    0x200FF == 0xAB && t.psw == 0xF004 && t.halted.isNone) = true := by decide

/-- V61: PUSH SP (pushes the value before the decrement) -/
theorem test_push_sp : stepThat (placeCode { boot with sp := 0x0100, ss := 0x2000 } 0 [0x54]) (fun t =>
    t.sp == 0x00FE && t.pc == 0x0101 && Mem.read t.memory 0x200FF == 0x01 && t.psw == 0xF004 &&
    t.halted.isNone) = true := by decide

/-- V62: PUSH AW with SP=2 (lowest legal) -/
theorem test_push_lowest_sp : stepThat (placeCode
    { boot with aw := 0x1234, sp := 0x0002, ss := 0x0010 } 0 [0x50]) (fun t =>
    t.sp == 0x0000 && t.pc == 0x0101 && Mem.read t.memory 0x00100 == 0x34 && Mem.read t.memory
    0x00101 == 0x12 && t.psw == 0xF004 && t.halted.isNone) = true := by decide

/-- V63: PUSH AW with SP=1 -/
theorem test_push_overflow : stepThat (placeCode { boot with aw := 0x1234, sp := 0x0001 } 0 [0x50]) (fun t =>
    t.halted == some (.stackOverflow 0x1)) = true := by decide

/-- V65: POP CW with SP=0xFFFF (word and SP both wrap) -/
theorem test_pop_wraps : stepThat (placeCode
    { boot with sp := 0xFFFF, ss := 0x1000, memory := [(0x10000, 0x22), (0x1FFFF, 0x11)] } 0 [0x59]) (fun t =>
    t.cw == 0x2211 && t.sp == 0x0001 && t.pc == 0x0101 && t.psw == 0xF004 && t.halted.isNone) = true := by decide

/-- V66: POP SP -/
theorem test_pop_sp : stepThat (placeCode
    { boot with sp := 0x0010, memory := [(0x00010, 0x78), (0x00011, 0x56)] } 0 [0x5C]) (fun t =>
    t.sp == 0x5678 && t.pc == 0x0101 && t.psw == 0xF004 && t.halted.isNone) = true := by decide

/-- V67: PUSH DS0 -/
theorem test_push_ds0 : stepThat (placeCode { boot with ds0 := 0xBEEF, sp := 0x0010 } 0 [0x1E]) (fun t =>
    t.sp == 0x000E && t.pc == 0x0101 && Mem.read t.memory 0x0000E == 0xEF && Mem.read t.memory
    0x0000F == 0xBE && t.psw == 0xF004 && t.halted.isNone) = true := by decide

/-- V68: PUSH PS -/
theorem test_push_ps : stepThat (placeCode { boot with sp := 0x0010 } 0 [0x0E]) (fun t =>
    t.sp == 0x000E && t.pc == 0x0101 && t.psw == 0xF004 && t.halted.isNone) = true := by decide

/-- V69: POP SS -/
theorem test_pop_ss : stepThat (placeCode { boot with sp := 0x0010, memory := [(0x00011, 0x20)] } 0 [0x17]) (fun t =>
    t.sp == 0x0012 && t.ss == 0x2000 && t.pc == 0x0101 && t.psw == 0xF004 && t.halted.isNone) = true := by decide

/-- V70: POP DS1 -/
theorem test_pop_ds1 : stepThat (placeCode
    { boot with sp := 0x0010, memory := [(0x00010, 0x34), (0x00011, 0x12)] } 0 [0x07]) (fun t =>
    t.sp == 0x0012 && t.ds1 == 0x1234 && t.pc == 0x0101 && t.psw == 0xF004 && t.halted.isNone) = true := by decide

/-- V71: PUSH PSW -/
theorem test_push_psw : stepThat (placeCode { boot with sp := 0x0010 } 0 [0x9C]) (fun t =>
    t.sp == 0x000E && t.pc == 0x0101 && Mem.read t.memory 0x0000E == 0x04 && Mem.read t.memory
    0x0000F == 0xF0 && t.psw == 0xF004 && t.halted.isNone) = true := by decide

/-- V72: POP PSW (all 16 bits loaded) -/
theorem test_pop_psw : stepThat (placeCode
    { boot with sp := 0x0010, memory := [(0x00010, 0xFF), (0x00011, 0x0F)] } 0 [0x9D]) (fun t =>
    t.sp == 0x0012 && t.pc == 0x0101 && t.psw == 0x0FFF && t.halted.isNone) = true := by decide

/-- V80: MOVBKW -/
theorem test_movbk_word : stepThat (placeCode
    { boot with ix := 0x0010, iy := 0x0020, ds0 := 0x2000, ds1 := 0x2002, memory := [(0x20010, 0xEF), (0x20011,
      0xBE)] } 0 [0xA5]) (fun t =>
    t.ix == 0x0012 && t.iy == 0x0022 && t.pc == 0x0101 && Mem.read t.memory 0x20040 == 0xEF &&
    Mem.read t.memory 0x20041 == 0xBE && t.psw == 0xF004 && t.halted.isNone) = true := by decide

/-- V81: MOVBKB, DIR=1 -/
theorem test_movbk_byte_down : stepThat (placeCode
    { boot with ix := 0x0010, iy := 0x0020, ds0 := 0x2000, ds1 := 0x3000, psw := 0xF404, memory := [(0x20010,
      0x77)] } 0 [0xA4]) (fun t =>
    t.ix == 0x000F && t.iy == 0x001F && t.pc == 0x0101 && Mem.read t.memory 0x30020 == 0x77 &&
    t.psw == 0xF404 && t.halted.isNone) = true := by decide

/-- V83: STMW at IY=0xFFFF -/
theorem test_stm_word_wraps : stepThat (placeCode
    { boot with aw := 0x1234, iy := 0xFFFF, ds1 := 0x1000 } 0 [0xAB]) (fun t =>
    t.iy == 0x0001 && t.pc == 0x0101 && Mem.read t.memory 0x10000 == 0x12 && Mem.read t.memory
    0x1FFFF == 0x34 && t.psw == 0xF004 && t.halted.isNone) = true := by decide

/-- V84: LDMW at IX=0xFFFF -/
theorem test_ldm_word_wraps : stepThat (placeCode
    { boot with ix := 0xFFFF, ds0 := 0x3000, memory := [(0x30000, 0x12), (0x3FFFF, 0x34)] } 0 [0xAD]) (fun t =>
    t.aw == 0x1234 && t.ix == 0x0001 && t.pc == 0x0101 && t.psw == 0xF004 && t.halted.isNone) = true := by decide

/-- V85: LDMB (AH kept) -/
theorem test_ldm_byte_keeps_ah : stepThat (placeCode
    { boot with aw := 0xAA00, ix := 0x0005, memory := [(0x00005, 0x99)] } 0 [0xAC]) (fun t =>
    t.aw == 0xAA99 && t.ix == 0x0006 && t.pc == 0x0101 && t.psw == 0xF004 && t.halted.isNone) = true := by decide

/-- V86: OUTMW -/
theorem test_outm_word : stepThat (placeCode
    { boot with dw := 0x0040, ix := 0x0200, memory := [(0x00200, 0x41), (0x00201, 0x42)] } 0 [0x6F]) (fun t =>
    t.ix == 0x0202 && t.pc == 0x0101 && t.portRead8 0x0040 == 0x41 && t.portRead8 0x0041 == 0x42
    && t.psw == 0xF004 && t.trace == [(0x0040, 0x41), (0x0041, 0x42)] && t.halted.isNone) = true := by decide

/-- V87: INMB -/
theorem test_inm_byte : stepThat (placeCode
    { boot with dw := 0x0010, iy := 0x0000, ds1 := 0x3000, ports := [(0x00010, 0x99)] } 0 [0x6C]) (fun t =>
    t.iy == 0x0001 && t.pc == 0x0101 && Mem.read t.memory 0x30000 == 0x99 && t.psw == 0xF004 &&
    t.halted.isNone) = true := by decide

/-- V88: INMW -/
theorem test_inm_word : stepThat (placeCode
    { boot with dw := 0x0010, iy := 0x0008, ds1 := 0x3000, ports := [(0x00010, 0x34), (0x00011, 0x12)] } 0 [0x6D])
      (fun t =>
    t.iy == 0x000A && t.pc == 0x0101 && Mem.read t.memory 0x30008 == 0x34 && Mem.read t.memory
    0x30009 == 0x12 && t.psw == 0xF004 && t.halted.isNone) = true := by decide

/-- V89: REP STMB, CW=3 -/
theorem test_rep_stm_byte : stepThat (placeCode
    { boot with aw := 0x00EE, cw := 0x0003, iy := 0x0400 } 0 [0xF3, 0xAA]) (fun t =>
    t.cw == 0x0000 && t.iy == 0x0403 && t.pc == 0x0102 && Mem.read t.memory 0x00400 == 0xEE &&
    Mem.read t.memory 0x00401 == 0xEE && Mem.read t.memory 0x00402 == 0xEE && t.psw == 0xF004 &&
    t.halted.isNone) = true := by decide

/-- V90: REP STMB, CW=0 (zero repetitions) -/
theorem test_rep_zero : stepThat (placeCode
    { boot with aw := 0x00EE, cw := 0x0000, iy := 0x0400 } 0 [0xF3, 0xAA]) (fun t =>
    t.pc == 0x0102 && t.psw == 0xF004 && t.halted.isNone) = true := by decide

/-- V91: REP MOVBKB, overlapping forward copy -/
theorem test_rep_movbk_overlap : stepThat (placeCode
    { boot with cw := 0x0004, ix := 0x0200, iy := 0x0201, memory := [(0x00200, 0xA1), (0x00201, 0xB2), (0x00202,
      0xC3), (0x00203, 0xD4), (0x00204, 0xE5)] } 0 [0xF3, 0xA4]) (fun t =>
    t.cw == 0x0000 && t.ix == 0x0204 && t.iy == 0x0205 && t.pc == 0x0102 && Mem.read t.memory
    0x00201 == 0xA1 && Mem.read t.memory 0x00202 == 0xA1 && Mem.read t.memory 0x00203 == 0xA1 &&
    Mem.read t.memory 0x00204 == 0xA1 && t.psw == 0xF004 && t.halted.isNone) = true := by decide

/-- V93: REP OUTMB -/
theorem test_rep_outm_byte : stepThat (placeCode
    { boot with cw := 0x0003, dw := 0x0040, ix := 0x0200, memory := [(0x00200, 0x48), (0x00201, 0x49), (0x00202,
      0x21)] } 0 [0xF3, 0x6E]) (fun t =>
    t.cw == 0x0000 && t.ix == 0x0203 && t.pc == 0x0102 && t.portRead8 0x0040 == 0x21 && t.psw ==
    0xF004 && t.trace == [(0x0040, 0x48), (0x0040, 0x49), (0x0040, 0x21)] && t.halted.isNone) = true := by decide

/-- V94: REP LDMB, DIR=1 -/
theorem test_rep_ldm_down : stepThat (placeCode
    { boot with cw := 0x0002, ix := 0x0201, psw := 0xF404, memory := [(0x00200, 0x11), (0x00201, 0x22)] } 0 [0xF3,
      0xAC]) (fun t =>
    t.aw == 0x0011 && t.cw == 0x0000 && t.ix == 0x01FF && t.pc == 0x0102 && t.psw == 0xF404 &&
    t.halted.isNone) = true := by decide

/-- V96: REP CMPBKB (not implemented; CW not tested) -/
theorem test_rep_cmpbk_faults : stepThat (placeCode { boot with cw := 0x0000 } 0 [0xF3, 0xA6]) (fun t =>
    t.halted == some (.unimplemented 0xF3 (some 0xA6))) = true := by decide

/-- V97: REP NOP (follower is not a block opcode) -/
theorem test_rep_other_faults : stepThat (placeCode { boot with cw := 0x0005 } 0 [0xF3, 0x90]) (fun t =>
    t.halted == some (.unimplemented 0xF3 (some 0x90))) = true := by decide

/-- V101: BR near -3 (to itself) -/
theorem test_br_near_back : stepThat (placeCode boot 0 [0xE9, 0xFD, 0xFF]) (fun t =>
    t.pc == 0x0100 && t.psw == 0xF004 && t.halted.isNone) = true := by decide

/-- V103: BR short -128 -/
theorem test_br_short : stepThat (placeCode boot 0 [0xEB, 0x80]) (fun t =>
    t.pc == 0x0082 && t.psw == 0xF004 && t.halted.isNone) = true := by decide

/-- V105: BR far F000:0100 -/
theorem test_br_far : stepThat (placeCode boot 0 [0xEA, 0x00, 0x01, 0x00, 0xF0]) (fun t =>
    t.ps == 0xF000 && t.pc == 0x0100 && t.psw == 0xF004 && t.halted.isNone) = true := by decide

/-- V106: CALL near +0x00FD -/
theorem test_call_near : stepThat (placeCode { boot with sp := 0x1000, pc := 0x0200 } 0 [0xE8, 0xFD, 0x00]) (fun t =>
    t.sp == 0x0FFE && t.pc == 0x0300 && Mem.read t.memory 0x00FFE == 0x03 && Mem.read t.memory
    0x00FFF == 0x02 && t.psw == 0xF004 && t.halted.isNone) = true := by decide

/-- V108: CALL far E000:2000 -/
theorem test_call_far : stepThat (placeCode
    { boot with sp := 0x0100, ss := 0x3000, pc := 0x0010, ps := 0xF000 } 0 [0x9A, 0x00, 0x20, 0x00, 0xE0]) (fun t
      =>
    t.sp == 0x00FC && t.ps == 0xE000 && t.pc == 0x2000 && Mem.read t.memory 0x300FC == 0x15 &&
    Mem.read t.memory 0x300FF == 0xF0 && t.psw == 0xF004 && t.halted.isNone) = true := by decide

/-- V109: CALL far with SP=3 (second push faults) -/
theorem test_call_far_overflow : stepThat (placeCode
    { boot with sp := 0x0003, ss := 0x3000, pc := 0x0010, ps := 0xF000 } 0 [0x9A, 0x00, 0x20, 0x00, 0xE0]) (fun t
      =>
    t.halted == some (.stackOverflow 0x1)) = true := by decide

/-- V111: RET (near) -/
theorem test_ret_near : stepThat (placeCode
    { boot with sp := 0x0FFE, pc := 0x0300, memory := [(0x00FFE, 0x03), (0x00FFF, 0x02)] } 0 [0xC3]) (fun t =>
    t.sp == 0x1000 && t.pc == 0x0203 && t.psw == 0xF004 && t.halted.isNone) = true := by decide

/-- V112: RET (far) -/
theorem test_ret_far : stepThat (placeCode
    { boot with sp := 0x00FC, ss := 0x3000, pc := 0x2000, ps := 0xE000, memory := [(0x300FC, 0x15), (0x300FF,
      0xF0)] } 0 [0xCB]) (fun t =>
    t.sp == 0x0100 && t.ps == 0xF000 && t.pc == 0x0015 && t.psw == 0xF004 && t.halted.isNone) = true := by decide

/-- V120: BV +16 -/
theorem test_bv_taken : stepThat (placeCode { boot with psw := 0xF804 } 0 [0x70, 0x10]) (fun t =>
    t.pc == 0x0112 && t.psw == 0xF804 && t.halted.isNone) = true := by decide

/-- V123: BNV +16 -/
theorem test_bnv_not_taken : stepThat (placeCode { boot with psw := 0xF804 } 0 [0x71, 0x10]) (fun t =>
    t.pc == 0x0102 && t.psw == 0xF804 && t.halted.isNone) = true := by decide

/-- V125: BC +16 -/
theorem test_bc_not_taken : stepThat (placeCode boot 0 [0x72, 0x10]) (fun t =>
    t.pc == 0x0102 && t.psw == 0xF004 && t.halted.isNone) = true := by decide

/-- V126: BNC +16 -/
theorem test_bnc_taken : stepThat (placeCode boot 0 [0x73, 0x10]) (fun t =>
    t.pc == 0x0112 && t.psw == 0xF004 && t.halted.isNone) = true := by decide

/-- V128: BE +16 -/
theorem test_be_taken : stepThat (placeCode { boot with psw := 0xF044 } 0 [0x74, 0x10]) (fun t =>
    t.pc == 0x0112 && t.psw == 0xF044 && t.halted.isNone) = true := by decide

/-- V131: BNE +16 -/
theorem test_bne_not_taken : stepThat (placeCode { boot with psw := 0xF044 } 0 [0x75, 0x10]) (fun t =>
    t.pc == 0x0102 && t.psw == 0xF044 && t.halted.isNone) = true := by decide

/-- V133: BNH +16 -/
theorem test_bnh_on_z : stepThat (placeCode { boot with psw := 0xF044 } 0 [0x76, 0x10]) (fun t =>
    t.pc == 0x0112 && t.psw == 0xF044 && t.halted.isNone) = true := by decide

/-- V137: BH -16 -/
theorem test_bh_not_on_cy : stepThat (placeCode { boot with psw := 0xF005 } 0 [0x77, 0xF0]) (fun t =>
    t.pc == 0x0102 && t.psw == 0xF005 && t.halted.isNone) = true := by decide

/-- V138: BN +16 -/
theorem test_bn_taken : stepThat (placeCode { boot with psw := 0xF084 } 0 [0x78, 0x10]) (fun t =>
    t.pc == 0x0112 && t.psw == 0xF084 && t.halted.isNone) = true := by decide

/-- V140: BP +16 -/
theorem test_bp_taken : stepThat (placeCode boot 0 [0x79, 0x10]) (fun t =>
    t.pc == 0x0112 && t.psw == 0xF004 && t.halted.isNone) = true := by decide

/-- V143: BPE +127 -/
theorem test_bpe_not_taken : stepThat (placeCode { boot with psw := 0xF000 } 0 [0x7A, 0x7F]) (fun t =>
    t.pc == 0x0102 && t.psw == 0xF000 && t.halted.isNone) = true := by decide

/-- V144: BPO +16 -/
theorem test_bpo_taken : stepThat (placeCode { boot with psw := 0xF000 } 0 [0x7B, 0x10]) (fun t =>
    t.pc == 0x0112 && t.psw == 0xF000 && t.halted.isNone) = true := by decide

/-- V148: BLT +16 -/
theorem test_blt_equal : stepThat (placeCode { boot with psw := 0xF884 } 0 [0x7C, 0x10]) (fun t =>
    t.pc == 0x0102 && t.psw == 0xF884 && t.halted.isNone) = true := by decide

/-- V152: BGE +16 -/
theorem test_bge_differ : stepThat (placeCode { boot with psw := 0xF084 } 0 [0x7D, 0x10]) (fun t =>
    t.pc == 0x0102 && t.psw == 0xF084 && t.halted.isNone) = true := by decide

/-- V155: BLE +16 -/
theorem test_ble_equal : stepThat (placeCode { boot with psw := 0xF884 } 0 [0x7E, 0x10]) (fun t =>
    t.pc == 0x0102 && t.psw == 0xF884 && t.halted.isNone) = true := by decide

/-- V159: BGT +16 -/
theorem test_bgt_differ : stepThat (placeCode { boot with psw := 0xF804 } 0 [0x7F, 0x10]) (fun t =>
    t.pc == 0x0102 && t.psw == 0xF804 && t.halted.isNone) = true := by decide

/-- V170: IN AL,0x10 -/
theorem test_in_al : stepThat (placeCode
    { boot with aw := 0xAA00, ports := [(0x00010, 0x5C)] } 0 [0xE4, 0x10]) (fun t =>
    t.aw == 0xAA5C && t.pc == 0x0102 && t.psw == 0xF004 && t.halted.isNone) = true := by decide

/-- V171: IN AW,0xFF (second byte from port 0x0100) -/
theorem test_in_aw : stepThat (placeCode
    { boot with ports := [(0x000FF, 0x34), (0x00100, 0x12)] } 0 [0xE5, 0xFF]) (fun t =>
    t.aw == 0x1234 && t.pc == 0x0102 && t.psw == 0xF004 && t.halted.isNone) = true := by decide

/-- V172: OUT 0x20,AL -/
theorem test_out_al : stepThat (placeCode { boot with aw := 0xBEEF } 0 [0xE6, 0x20]) (fun t =>
    t.pc == 0x0102 && t.portRead8 0x0020 == 0xEF && t.psw == 0xF004 && t.trace == [(0x0020,
    0xEF)] && t.halted.isNone) = true := by decide

/-- V173: OUT 0x20,AW -/
theorem test_out_aw : stepThat (placeCode { boot with aw := 0xBEEF } 0 [0xE7, 0x20]) (fun t =>
    t.pc == 0x0102 && t.portRead8 0x0020 == 0xEF && t.portRead8 0x0021 == 0xBE && t.psw ==
    0xF004 && t.trace == [(0x0020, 0xEF), (0x0021, 0xBE)] && t.halted.isNone) = true := by decide

/-- V174: IN AL,DW -/
theorem test_in_al_dw : stepThat (placeCode
    { boot with aw := 0xAA00, dw := 0x0300, ports := [(0x00300, 0x5C)] } 0 [0xEC]) (fun t =>
    t.aw == 0xAA5C && t.pc == 0x0101 && t.psw == 0xF004 && t.halted.isNone) = true := by decide

/-- V175: IN AW,DW with DW=0xFFFF (port address wraps) -/
theorem test_in_aw_dw_wraps : stepThat (placeCode
    { boot with dw := 0xFFFF, ports := [(0x00000, 0x12), (0x0FFFF, 0x34)] } 0 [0xED]) (fun t =>
    t.aw == 0x1234 && t.pc == 0x0101 && t.psw == 0xF004 && t.halted.isNone) = true := by decide

/-- V176: OUT DW,AL -/
theorem test_out_dw_al : stepThat (placeCode { boot with aw := 0x0041, dw := 0x0300 } 0 [0xEE]) (fun t =>
    t.pc == 0x0101 && t.portRead8 0x0300 == 0x41 && t.psw == 0xF004 && t.trace == [(0x0300,
    0x41)] && t.halted.isNone) = true := by decide

/-- V177: OUT DW,AW with DW=0xFFFF -/
theorem test_out_dw_aw_wraps : stepThat (placeCode { boot with aw := 0x1234, dw := 0xFFFF } 0 [0xEF]) (fun t =>
    t.pc == 0x0101 && t.portRead8 0x0000 == 0x12 && t.portRead8 0xFFFF == 0x34 && t.psw ==
    0xF004 && t.trace == [(0xFFFF, 0x34), (0x0000, 0x12)] && t.halted.isNone) = true := by decide

/-- V190: ROL AL,1 -/
theorem test_rol : stepThat (placeCode { boot with aw := 0x0081 } 0 [0xD0, 0xC0]) (fun t =>
    t.aw == 0x0003 && t.pc == 0x0102 && t.psw == 0xF805 && t.halted.isNone) = true := by decide

/-- V191: ROR AL,1 -/
theorem test_ror : stepThat (placeCode { boot with aw := 0x0001 } 0 [0xD0, 0xC8]) (fun t =>
    t.aw == 0x0080 && t.pc == 0x0102 && t.psw == 0xF805 && t.halted.isNone) = true := by decide

/-- V192: ROLC AL,1 (CY=0) -/
theorem test_rolc : stepThat (placeCode { boot with aw := 0x0080 } 0 [0xD0, 0xD0]) (fun t =>
    t.aw == 0x0000 && t.pc == 0x0102 && t.psw == 0xF805 && t.halted.isNone) = true := by decide

/-- V193: RORC AW,1 (CY=1) -/
theorem test_rorc : stepThat (placeCode { boot with aw := 0x0001, psw := 0xF005 } 0 [0xD1, 0xD8]) (fun t =>
    t.aw == 0x8000 && t.pc == 0x0102 && t.psw == 0xF805 && t.halted.isNone) = true := by decide

/-- V194: SHL AL,1 -/
theorem test_shl : stepThat (placeCode { boot with aw := 0x0040 } 0 [0xD0, 0xE0]) (fun t =>
    t.aw == 0x0080 && t.pc == 0x0102 && t.psw == 0xF880 && t.halted.isNone) = true := by decide

/-- V195: SHR AL,1 -/
theorem test_shr : stepThat (placeCode { boot with aw := 0x0081 } 0 [0xD0, 0xE8]) (fun t =>
    t.aw == 0x0040 && t.pc == 0x0102 && t.psw == 0xF801 && t.halted.isNone) = true := by decide

/-- V196: SHRA AL,1 -/
theorem test_shra : stepThat (placeCode { boot with aw := 0x0081 } 0 [0xD0, 0xF8]) (fun t =>
    t.aw == 0x00C0 && t.pc == 0x0102 && t.psw == 0xF085 && t.halted.isNone) = true := by decide

/-- V199: SHL AL,CL with CL=9 (count above the width, not masked) -/
theorem test_shl_past_width : stepThat (placeCode { boot with aw := 0x00FF, cw := 0x0009 } 0 [0xD2, 0xE0]) (fun t =>
    t.aw == 0x0000 && t.pc == 0x0102 && t.psw == 0xF844 && t.halted.isNone) = true := by decide

/-- V202: SHRA AW,15 -/
theorem test_shra_fifteen : stepThat (placeCode { boot with aw := 0x8001 } 0 [0xC1, 0xF8, 0x0F]) (fun t =>
    t.aw == 0xFFFF && t.pc == 0x0103 && t.psw == 0xF084 && t.halted.isNone) = true := by decide

/-- V207: RORC AL,CL with CL=0 (nothing changes) -/
theorem test_rorc_count_zero : stepThat (placeCode
    { boot with aw := 0x0081, cw := 0x0000, psw := 0xF805 } 0 [0xD2, 0xD8]) (fun t =>
    t.pc == 0x0102 && t.psw == 0xF805 && t.halted.isNone) = true := by decide

/-- V209: SHL CL,CL (count read before the write) -/
theorem test_shl_cl_cl : stepThat (placeCode { boot with cw := 0x0003 } 0 [0xD2, 0xE1]) (fun t =>
    t.cw == 0x0018 && t.pc == 0x0102 && t.psw == 0xF004 && t.halted.isNone) = true := by decide

/-- V210: shift group /6 (undefined encoding) -/
theorem test_shift_undefined : stepThat (placeCode { boot with aw := 0x0001 } 0 [0xD0, 0xF0]) (fun t =>
    t.halted == some (.undefinedEncoding 0xD0 0xF0)) = true := by decide

/-- V220: BRKXA 0x10 -/
theorem test_brkxa : stepThat (placeCode
    { boot with pc := 0x0000, ps := 0xC000, memory := [(0x00041, 0x10), (0x00043, 0xC0)] } 0 [0x0F, 0xE0, 0x10])
      (fun t =>
    t.pc == 0x1000 && t.portRead8 0xFF80 == 0x01 && t.psw == 0xF004 && t.halted.isNone) = true := by decide

/-- V221: RETXA 0x11 (xa=1; entry read from extended) -/
theorem test_retxa : stepThat (placeCode
    { boot with pc := 0x0000, ps := 0xC000, memory := [(0x00044, 0xFF), (0x00045, 0xFF), (0x00046, 0xFF),
      (0x00047, 0xFF)], extended := [(0x00044, 0x34), (0x00045, 0x12), (0x00047, 0xF0)], ports := [(0x0FF80, 0x01)]
      } 0 [0x0F, 0xF0, 0x11]) (fun t =>
    t.ps == 0xF000 && t.pc == 0x1234 && t.portRead8 0xFF80 == 0x00 && t.psw == 0xF004 &&
    t.halted.isNone) = true := by decide

/-- V224: 0F 10 (other second byte: not implemented) -/
theorem test_escape_faults : stepThat (placeCode { boot with pc := 0x0000, ps := 0xC000 } 0 [0x0F, 0x10]) (fun t =>
    t.halted == some (.unimplemented 0xF (some 0x10))) = true := by decide

/-- V231: DIVU CL (quotient 0x100 does not fit) -/
theorem test_divu_does_not_fit : stepThat (placeCode
    { boot with aw := 0x1000, cw := 0x0010 } 0 [0xF6, 0xF1]) (fun t =>
    t.halted == some (.divideError 0xF6 0x10)) = true := by decide

/-- V233: DIVU BW -/
theorem test_divu_word : stepThat (placeCode
    { boot with dw := 0x0001, aw := 0x0000, bw := 0x0003 } 0 [0xF7, 0xF3]) (fun t =>
    t.aw == 0x5555 && t.pc == 0x0102 && t.psw == 0xF004 && t.halted.isNone) = true := by decide

/-- V237: DIV BL (7 / -2) -/
theorem test_div_byte : stepThat (placeCode { boot with aw := 0x0007, bw := 0x00FE } 0 [0xF6, 0xFB]) (fun t =>
    t.aw == 0x01FD && t.pc == 0x0102 && t.psw == 0xF004 && t.halted.isNone) = true := by decide

/-- V239: DIV CW (-100 / 7) -/
theorem test_div_word : stepThat (placeCode
    { boot with dw := 0xFFFF, aw := 0xFF9C, cw := 0x0007 } 0 [0xF7, 0xF9]) (fun t =>
    t.aw == 0xFFF2 && t.dw == 0xFFFE && t.pc == 0x0102 && t.psw == 0xF004 && t.halted.isNone) = true := by decide

/-- V242: DIV BW (-2^31 / -1: does not fit) -/
theorem test_div_does_not_fit : stepThat (placeCode
    { boot with dw := 0x8000, aw := 0x0000, bw := 0xFFFF } 0 [0xF7, 0xFB]) (fun t =>
    t.halted == some (.divideError 0xF7 0xFFFF)) = true := by decide

/-- V244: DIVU AL (divisor is part of the dividend; read first) -/
theorem test_divu_own_divisor : stepThat (placeCode { boot with aw := 0x0310 } 0 [0xF6, 0xF0]) (fun t =>
    t.aw == 0x0031 && t.pc == 0x0102 && t.psw == 0xF004 && t.halted.isNone) = true := by decide

/-- V250: DS1: (prefix alone is one step) -/
theorem test_prefix : stepThat (placeCode
    { boot with ds1 := 0x1000, ds0 := 0x2000, ss := 0x3000, bw := 0x0010, memory := [(0x00010, 0x33), (0x10010,
      0x11), (0x20010, 0x22), (0x30010, 0x44)] } 0 [0x26]) (fun t =>
    t.pc == 0x0101 && t.segOverride == some .ds1 && t.psw == 0xF004 && t.halted.isNone) = true := by decide

/-- V257: NOP (0x90: not implemented) -/
theorem test_nop_faults : stepThat (placeCode boot 0 [0x90]) (fun t =>
    t.halted == some (.unimplemented 0x90 none)) = true := by decide

/-- A run of two steps that the vectors count as one effect: the prefix, then the instruction it governs (V251). -/
theorem test_override_governs_next_instruction : stepThat (placeCode { boot with
    ds1 := 0x1000, ds0 := 0x2000, bw := 0x0010, memory := [(0x10010, 0x11), (0x20010, 0x22)],
    segOverride := some .ds1 } 0 [0x8A, 0x07]) (fun t => t.aw == 0x0011 && t.segOverride.isNone) = true := by decide

/-- Bits 15..8 of a table word are the first byte. -/
theorem test_table_word : decodeTableWord 16 0x01D0 = some (.addRm16Reg16 (.reg .aw) .dw) := by decide
theorem test_fetch_word : stepThat (State.reset.withFetchWord 16 0xB8A5) (fun t => t.aw == 0x00A5 && t.pc == 3) = true := by
  
  decide

/-- A halted core answers its fault. -/
theorem test_halted : (match step { boot with halted := some (.unimplemented 0x90 none) } with
    | .fault f => f == .unimplemented 0x90 none | .next _ | .refused _ => false) = true := by decide

/-! ## Witnesses: the hypotheses of every statement can be met -/

/-- The answered next state of a step. -/
theorem next_of_stepThat {s : State} {p : State → Bool} (h : stepThat s p = true) : ∃ t, step s = .next t ∧ p t = true := by
  
  unfold stepThat at h
  split at h
  · exact ⟨_, ‹_›, h⟩
  · simp at h
  · simp at h

/-- Bytes at PS:PC of `boot` decode to an instruction and the step answers a running state with a property. -/
theorem witness_of {s : State} {i : Instr} {rest : List Byte} {p : State → Bool}
    (hd : decode s.codeBytes = .ok (i, rest)) (hs : stepThat s (fun t => t.halted.isNone && p t) = true) :
    ∃ t, decode s.codeBytes = .ok (i, rest) ∧ step s = .next t ∧ t.halted = none ∧ p t = true := by
  obtain ⟨t, h, k⟩ := next_of_stepThat hs
  rw [Bool.and_eq_true, Option.isNone_iff_eq_none] at k
  exact ⟨t, hd, h, k⟩

/-- `boot` with code. -/
def code (bytes : List Byte) : State := placeCode boot 0 bytes

theorem witness_EncodedInstructionsDecode : WellFormed (.addRm16Reg16 (.mem16 .bpIy 0x8000) .sp) = true := by decide
theorem witness_DecodedBytesEncode : decode [0x50] = .ok (.pushReg16 .aw, []) := by decide
theorem witness_DecoderIsTotal : 6 ≤ ([0xEA, 0, 0, 0, 0, 0] : List Byte).length := by decide
theorem witness_OversizedImageIsRefused_too_long : 0x100000 < (List.replicate 0x100001 (0 : Byte)).length := by
  rw [List.length_replicate]; decide
theorem witness_OversizedImageIsRefused_longest : (List.replicate 0x100000 (0 : Byte)).length ≤ 0x100000 :=
  Nat.le_of_eq List.length_replicate
theorem witness_ConstructionLoadsTheImage : ([0x90] : List Byte).length ≤ 0x100000 ∧ Config.default.wf = true := by
  decide
theorem witness_StepRunsTheDecodedInstruction_runs : boot.halted = none ∧
    decode (code [0x40]).codeBytes = .ok (.incReg16 .aw, [0, 0, 0, 0, 0]) ∧
    ∃ t, exec (.incReg16 .aw) ((code [0x40]).fetched 1) = .next t ∧ t.halted = none := ⟨rfl, by decide, _, rfl, rfl⟩
theorem witness_StepRunsTheDecodedInstruction_raises : boot.halted = none ∧
    decode (code [0x90]).codeBytes = .ok (.unimp90, [0, 0, 0, 0, 0]) ∧
    ∃ t, exec .unimp90 ((code [0x90]).fetched 1) = .next t ∧ t.halted = some (.unimplemented 0x90 none) :=
  ⟨rfl, by decide, _, rfl, rfl⟩
theorem witness_StepRunsTheEncodedInstruction : (code [0xEB, 0xFE]).halted = none ∧ WellFormed (.brShort 0xFE) = true ∧
    ∀ k (h : k < (encode (.brShort 0xFE)).length),
      (code [0xEB, 0xFE]).codeByte (BitVec.ofNat 16 k) = (encode (.brShort 0xFE))[k] := by decide
theorem witness_HaltedCoreTakesNoStep : ({ boot with halted := some (.stackOverflow 1) } : State).halted =
    some (.stackOverflow 1) := rfl
theorem witness_HaltedCoreTakesNoStep_run : Completes 2 (code [0x40, 0x40]) (run 2 (code [0x40, 0x40])) ∧ 1 ≤ 2 :=
  ⟨⟨rfl, by decide⟩, by decide⟩
theorem witness_OverrideLatchLifetime_exec : .incReg16 .aw ∉ [Instr.prefixDs1, .prefixPs, .prefixSs, .prefixDs0] ∧
    ∃ t, exec (.incReg16 .aw) boot = .next t := ⟨by decide, _, rfl⟩
theorem witness_OverrideLatchLifetime_ds1 : ∃ t, decode (code [0x26]).codeBytes = .ok (.prefixDs1, [0, 0, 0, 0, 0]) ∧
    step (code [0x26]) = .next t ∧ t.halted = none ∧ (t.segOverride == some .ds1) = true :=
  witness_of (by decide) (by decide)
theorem witness_OverrideLatchLifetime_ps : ∃ t, decode (code [0x2E]).codeBytes = .ok (.prefixPs, [0, 0, 0, 0, 0]) ∧
    step (code [0x2E]) = .next t ∧ t.halted = none ∧ (t.segOverride == some .ps) = true :=
  witness_of (by decide) (by decide)
theorem witness_OverrideLatchLifetime_ss : ∃ t, decode (code [0x36]).codeBytes = .ok (.prefixSs, [0, 0, 0, 0, 0]) ∧
    step (code [0x36]) = .next t ∧ t.halted = none ∧ (t.segOverride == some .ss) = true :=
  witness_of (by decide) (by decide)
theorem witness_OverrideLatchLifetime_ds0 : ∃ t, decode (code [0x3E]).codeBytes = .ok (.prefixDs0, [0, 0, 0, 0, 0]) ∧
    step (code [0x3E]) = .next t ∧ t.halted = none ∧ (t.segOverride == some .ds0) = true :=
  witness_of (by decide) (by decide)
theorem witness_OverrideLatchLifetime_consumed : ∃ t, decode ((code [0x40]).setSegOverride (some .ss)).codeBytes =
      .ok (.incReg16 .aw, [0, 0, 0, 0, 0]) ∧
    step ((code [0x40]).setSegOverride (some .ss)) = .next t ∧ t.halted = none ∧ (t.segOverride == none) = true :=
  witness_of (by decide) (by decide)

/-- A step that completes: the premise of every statement about completed steps. -/
theorem witness_completed_step : ∃ t, decode (code [0x40]).codeBytes = .ok (.incReg16 .aw, [0, 0, 0, 0, 0]) ∧
    step (code [0x40]) = .next t ∧ t.halted = none ∧ (t.aw == 1) = true := witness_of (by decide) (by decide)
theorem witness_ClockAdvancesOnCompletedSteps : ∃ t, exec (.incReg16 .aw) boot = .next t ∧ t.halted = none :=
  ⟨_, rfl, rfl⟩
/-- E5 of 95_test_vectors.md, A1 00 02 against A1 01 02, meets every premise of the strict clause. -/
theorem witness_OddWordOperandCostsMore_direct :
    cycleKey (.movAwDirect 0x0200) = cycleKey (.movAwDirect 0x0201) ∧
    repetitions (.movAwDirect 0x0200) boot = repetitions (.movAwDirect 0x0201) boot ∧
    wordAddresses (.movAwDirect 0x0200) boot = [] ++ 0x200 :: [] ∧
    wordAddresses (.movAwDirect 0x0201) boot = [] ++ 0x201 :: [] ∧ 0x200 % 2 = 0 ∧ 0x201 % 2 = 1 := by decide
theorem witness_OddWordOperandCostsMore_second_operand :
    wordAddresses .movbkWord { boot with ix := 0x11, iy := 0x20 } = [0x11] ++ 0x20 :: [] ∧
    wordAddresses .movbkWord { boot with ix := 0x13, iy := 0x21 } = [0x13] ++ 0x21 :: [] ∧
    [0x11].map (· % 2) = [0x13].map (· % 2) := by decide
theorem witness_OddWordOperandCostsMore_same :
    (wordAddresses (.movAlDirect 0x0200) boot).map (· % 2) = (wordAddresses (.movAlDirect 0x0201) boot).map (· % 2) := by
  decide
theorem witness_OddWordOperandCostsMore_forms :
    (wordOperandForms .aw .ss 0 0).length = 53 ∧ (byteOperandForms .al 0).length = 44 ∧
    resolve { boot with iy := 0x0201 } (.mem .iy : RM16) = .mem 0 0x0201 := by decide
theorem witness_OddWordOperandCostsMore_rep : boot.cw = 0 ∧ ({ boot with cw := 1 } : State).cw ≠ 0 := by decide
theorem witness_OddWordOperandCostsMore_scenario : phys ({ boot with iy := 0x0050 } : State).dataSeg 0x0050 % 2 = 0 := by
  decide

/-- Table entries by hand from 30_encoding.md R77 to R79: opcode and ModRM byte, sub-opcode or REP follower. -/
theorem test_cycle_entry : cycleKey (.addRm16Simm8 (.mem8 .bp 0x7F) 0x01) = (0x83, some 0x46) ∧
    cycleKey (.shlRm16Imm8 (.reg .aw) 4) = (0xC1, some 0xE0) ∧ cycleKey (.pushReg16 .bw) = (0x53, none) ∧
    cycleKey .repMovbkWord = (0xF3, some 0xA5) ∧ cycleKey (.brkxa 0x10) = (0x0F, some 0xE0) ∧
    cycleKey (.bv 0x10) = (0x70, none) := by decide
theorem witness_StepKeepsWellFormed : (code [0x40]).wf = true ∧ ∃ t, step (code [0x40]) = .next t :=
  ⟨by decide, have ⟨t, _, h, _⟩ := witness_completed_step; ⟨t, h⟩⟩
theorem witness_InvariantViolationIsUnreachable : boot.halted ≠ some .invariantViolation := by decide
theorem witness_OnlyPopPswChangesControlBits : Instr.incReg16 .aw ≠ .popPsw := by decide
theorem witness_OnlyFarTransfersChangePs : ∃ t, decode (code [0xEA, 0, 1, 0, 0xF0]).codeBytes =
      .ok (.brFar 0x0100 0xF000, [0]) ∧
    step (code [0xEA, 0, 1, 0, 0xF0]) = .next t ∧ t.halted = none ∧ (t.ps != (code [0xEA, 0, 1, 0, 0xF0]).ps) = true :=
  witness_of (by decide) (by decide)
theorem witness_OnlyOutputsExtendTheTrace : ∃ t, decode (code [0xE6, 0x20]).codeBytes = .ok (.outImm8Al 0x20, [0, 0, 0, 0]) ∧
    step (code [0xE6, 0x20]) = .next t ∧ t.halted = none ∧ (t.trace == [(0x20, 0)]) = true :=
  witness_of (by decide) (by decide)
theorem witness_OnlyOutputsAndBankSwitchesChangePorts_bank : ∃ t, decode (code [0x0F, 0xE0, 0x10]).codeBytes =
      .ok (.brkxa 0x10, [0, 0, 0]) ∧
    step (code [0x0F, 0xE0, 0x10]) = .next t ∧ t.halted = none ∧ (t.portRead8 0xFF80 != boot.portRead8 0xFF80) = true :=
  witness_of (by decide) (by decide)
theorem witness_OnlyOutputsAndBankSwitchesChangePorts_output : ∃ t,
    decode { (code [0xE6, 0x20]) with aw := 0x41 }.codeBytes = .ok (.outImm8Al 0x20, [0, 0, 0, 0]) ∧
    step { (code [0xE6, 0x20]) with aw := 0x41 } = .next t ∧ t.halted = none ∧
    (t.portRead8 0x20 != boot.portRead8 0x20) = true := witness_of (by decide) (by decide)
theorem witness_RegistersRoundTrip : Reg8.ah ≠ Reg8.al := by decide
theorem witness_ByteViewsAreBitsOfTheWord : [Reg16.sp, .bp, .ix, .iy].all ([.sp, .bp, .ix, .iy].contains ·) = true := by
  decide
theorem witness_SetPZSWritesThreeFlags : 0 ∉ [Flag.p.bit, Flag.z.bit, Flag.s.bit] ∧ 8 ∉ [Flag.p.bit, Flag.z.bit, Flag.s.bit] := by
  
  decide
theorem witness_SetPZSCYVWritesFiveFlags : ∀ f ∈ [Flag.p, .z, .s, .cy, .v], f.bit ≠ 1 ∧ f.bit ≠ 12 := by decide

/-- `wf` holds of `boot`, with the bank select on and off: the premise of the statements about stores, pushes and ports. -/
theorem witness_wf : boot.wf = true ∧ boot.xa = false ∧ boot.flipXa.wf = true ∧ boot.flipXa.xa = true := by decide
theorem witness_BankSelect : (boot.flipXa.xa = true ∧ 0x9FFFF < 0xA0000) ∧ ¬ (boot.flipXa.xa = true ∧ 0xA0000 < 0xA0000) ∧
    ¬ (boot.xa = true ∧ 0x9FFFF < 0xA0000) := by decide
theorem witness_PushStoresBelowTheStackPointer : ({ boot with sp := 1 } : State).sp.toNat < 2 ∧
    2 ≤ ({ boot with sp := 2 } : State).sp.toNat ∧ ({ boot with sp := 2 } : State).wf = true := by decide
theorem witness_OutputToXaPortSwitchesTheBank : (0xFF80 : Word) = boot.cfg.xaPort ∧ (0xFF7F : Word) + 1 = boot.cfg.xaPort ∧
    (0xFF81 : Word) ≠ boot.cfg.xaPort ∧ (0xFF81 : Word) + 1 ≠ boot.cfg.xaPort := by decide

/-- For every base combination one sum meets the eight premises. -/
theorem witness_ResolverOffsets (b : Base) : ∃ base : Nat,
    (b = .bwIx → base = boot.bw.toNat + boot.ix.toNat) ∧ (b = .bwIy → base = boot.bw.toNat + boot.iy.toNat) ∧
    (b = .bpIx → base = boot.bp.toNat + boot.ix.toNat) ∧ (b = .bpIy → base = boot.bp.toNat + boot.iy.toNat) ∧
    (b = .ix → base = boot.ix.toNat) ∧ (b = .iy → base = boot.iy.toNat) ∧ (b = .bp → base = boot.bp.toNat) ∧
    (b = .bw → base = boot.bw.toNat) := ⟨0, by cases b <;> decide⟩
theorem witness_DataSegmentFollowsTheLatch : boot.segOverride = none ∧
    [SReg.ds0, .ds1, .ps, .ss].all (fun r => (boot.setSegOverride (some r)).segOverride == some r) = true := by decide
theorem witness_FaultingBytesHaltTheStep_first : (code [0x90]).halted = none ∧
    ((code [0x90]).codeByte 0).toNat ∈ unimplementedFirstBytes := by decide
theorem witness_FaultingBytesHaltTheStep_group : ((code [0x81, 0xD8]).codeByte 0).toNat ∈ [0x80, 0x81, 0x83] ∧
    ((code [0x81, 0xD8]).codeByte 1).toNat / 8 % 8 = 3 := by decide
theorem witness_FaultingBytesHaltTheStep_f6 : ((code [0xF6, 0xE8]).codeByte 0).toNat ∈ [0xF6, 0xF7] ∧
    ((code [0xF6, 0xE8]).codeByte 1).toNat / 8 % 8 = 5 := by decide
theorem witness_FaultingBytesHaltTheStep_escape : ((code [0x0F, 0xE1]).codeByte 0).toNat = 0x0F ∧
    ((code [0x0F, 0xE1]).codeByte 1).toNat ≠ 0xE0 ∧ ((code [0x0F, 0xE1]).codeByte 1).toNat ≠ 0xF0 := by decide
theorem witness_FaultingBytesHaltTheStep_rep : ((code [0xF3, 0xA6]).codeByte 0).toNat = 0xF3 ∧
    ((code [0xF3, 0xA6]).codeByte 1).toNat ∉ [0x6C, 0x6D, 0x6E, 0x6F, 0xA4, 0xA5, 0xAA, 0xAB, 0xAC, 0xAD] := by decide
theorem witness_FaultingBytesHaltTheStep_sreg : ((code [0x8C, 0xE0]).codeByte 0).toNat ∈ [0x8C, 0x8E] ∧
    4 ≤ ((code [0x8C, 0xE0]).codeByte 1).toNat / 8 % 8 := by decide
theorem witness_FaultingBytesHaltTheStep_ps : ((code [0x8E, 0xC8]).codeByte 0).toNat = 0x8E ∧
    ((code [0x8E, 0xC8]).codeByte 1).toNat / 8 % 8 = 1 := by decide
theorem witness_FaultingBytesHaltTheStep_imm : ((code [0xC7, 0xC8]).codeByte 0).toNat ∈ [0xC6, 0xC7] ∧
    ((code [0xC7, 0xC8]).codeByte 1).toNat / 8 % 8 ≠ 0 := by decide
theorem witness_FaultingBytesHaltTheStep_shift :
    ((code [0xD0, 0xF0]).codeByte 0).toNat ∈ [0xC0, 0xC1, 0xD0, 0xD1, 0xD2, 0xD3] ∧
    ((code [0xD0, 0xF0]).codeByte 1).toNat / 8 % 8 = 6 := by decide
theorem witness_MovMovesSegmentRegisters : (SReg.ss = .ss ∨ SReg.ss = .ds0) ∧ (SReg.ds0 = .ss ∨ SReg.ds0 = .ds0) := by
  decide
theorem witness_PopLoadsTheRegister : Reg16.iy ≠ .sp := by decide
theorem witness_RepRepeatsTheTransfer : boot.cw = 0 := rfl
theorem witness_CallPushesTheReturnAddress : ({ boot with sp := 1 } : State).sp.toNat < 2 ∧
    2 ≤ ({ boot with sp := 3 } : State).sp.toNat ∧ ({ boot with sp := 3 } : State).sp.toNat < 4 ∧
    4 ≤ ({ boot with sp := 4 } : State).sp.toNat ∧ ({ boot with sp := 4 } : State).wf = true := by decide

/-- Every flag of a branch condition can be clear and set, S and V equal and different. -/
theorem witness_ConditionalBranchesTestTheirFlags :
    (boot.flag .cy = false ∧ boot.flag .z = false ∧ boot.flag .s = boot.flag .v ∧ boot.flag .p = true) ∧
    (let s : State := { boot with psw := 0xF841 }; s.flag .cy = true ∧ s.flag .z = true ∧ s.flag .s ≠ s.flag .v ∧
      s.flag .p = false ∧ s.flag .v = true) ∧
    (let s : State := { boot with psw := 0xF080 }; s.flag .s = true ∧ s.flag .s ≠ s.flag .v) := by decide
theorem witness_RotatesRotate : boot.wf = true ∧ (1 : Byte) ≠ 0 ∧ ({ boot with cw := 0x01FF } : State).reg8 .cl ≠ 0 := by
  decide
theorem witness_ShiftCountZeroChangesNothing : ({ boot with cw := 0xFF00 } : State).reg8 .cl = 0 := by decide
theorem witness_BankSwitchJumpsThroughTheVector : boot.wf = true ∧
    (Instr.retxa 0xFF = .brkxa 0xFF ∨ Instr.retxa 0xFF = .retxa 0xFF) := by decide
theorem witness_UnsignedDivision :
    (let s : State := { boot with aw := 0x0FFF, bw :=
  0x0010 }; (s.reg8 .ah).toNat < (s.read8 (resolve s (.reg .bl))).toNat) ∧
    (let s : State := { boot with aw := 0x1000, bw :=
  0x0010 }; (s.read8 (resolve s (.reg .bl))).toNat ≤ (s.reg8 .ah).toNat) ∧
    (let s : State := { boot with dw := 0x0002, bw := 0x0003 }; s.dw.toNat < (s.read16 (resolve s (.reg .bw))).toNat) ∧
    (let s : State := { boot with dw := 0x0003, bw := 0x0003 }; (s.read16 (resolve s (.reg .bw))).toNat ≤ s.dw.toNat) := by
  
  decide
theorem witness_SignedDivision :
    (let s : State := { boot with aw := 0xFF80, bw := 0x0001 }; let b := s.read8 (resolve s (.reg .bl))
      b ≠ 0 ∧ -128 ≤ s.aw.toInt.tdiv b.toInt ∧ s.aw.toInt.tdiv b.toInt ≤ 127) ∧
    (let s : State := { boot with aw := 0x0080, bw := 0x0001 }; let b := s.read8 (resolve s (.reg .bl))
      127 < s.aw.toInt.tdiv b.toInt) ∧
    (let s : State := { boot with aw := 0xFF7F, bw := 0x0001 }; let b := s.read8 (resolve s (.reg .bl))
      s.aw.toInt.tdiv b.toInt < -128) ∧
    (let s : State := { boot with dw := 0xFFFF, aw := 0x8000, bw := 0x0001 }; let b := s.read16 (resolve s (.reg .bw))
      let a := (s.dw ++ s.aw : BitVec 32).toInt
      b ≠ 0 ∧ -32768 ≤ a.tdiv b.toInt ∧ a.tdiv b.toInt ≤ 32767) ∧
    (let s : State := { boot with dw := 0x8000, aw := 0x0000, bw := 0xFFFF }; let b := s.read16 (resolve s (.reg .bw))
      let a := (s.dw ++ s.aw : BitVec 32).toInt
      32767 < a.tdiv b.toInt) ∧
    boot.read16 (resolve boot (.reg .bw)) = 0 := by decide

end Sys2Proof.Tests
end

/-! PROOFS. The registers and the composite flag setters (10_state.md R11, R18, R19, R32): every bit of the PSW that
`setPZS` and `setPZSCYV` give, for any width, and the byte registers as halves and as masks of their word register. -/

namespace Sys2Proof.Machine

/-! ## `setPZS` (R18) -/

theorem getLsbD_setPZS {w : Nat} (psw : Word) (r : BitVec w) (k : Nat) :
    (setPZS psw r).getLsbD k =
      if k = Flag.s.bit then r.msb else if k = Flag.z.bit then r == 0 else if k = Flag.p.bit then parityEven r
      else psw.getLsbD k := by
  simp only [setPZS, getLsbD_setFlag]

theorem getLsbD_setPZS_of_notMem {w : Nat} (psw : Word) (r : BitVec w) {k : Nat}
    (hk : k ∉ [Flag.p.bit, Flag.z.bit, Flag.s.bit]) : (setPZS psw r).getLsbD k = psw.getLsbD k := by
  simp only [List.mem_cons, List.not_mem_nil, or_false, not_or] at hk
  obtain ⟨hp, hz, hs⟩ := hk
  rw [getLsbD_setPZS, if_neg hs, if_neg hz, if_neg hp]

@[simp] theorem getFlag_setPZS_p {w : Nat} (psw : Word) (r : BitVec w) : getFlag (setPZS psw r) .p = parityEven r := by
  simp [setPZS, getFlag_setFlag]

@[simp] theorem getFlag_setPZS_z {w : Nat} (psw : Word) (r : BitVec w) :
    getFlag (setPZS psw r) .z = decide (r = 0) := by
  simp [setPZS, getFlag_setFlag, Bool.beq_eq_decide_eq]

@[simp] theorem getFlag_setPZS_s {w : Nat} (psw : Word) (r : BitVec w) : getFlag (setPZS psw r) .s = r.msb := by
  simp [setPZS]

/-- The parity is that of bits 7 to 0, also of a wider result. -/
theorem parityEven_eq_decide {w : Nat} (r : BitVec w) :
    parityEven r = decide (popcount (r.extractLsb' 0 8) % 2 = 0) := by
  have hlow : r.extractLsb' 0 8 = r.setWidth 8 := by
    ext i hi
    simp
  rw [hlow]
  rfl

/-- Settles O26: the bits of `setPZS` at any width, read at 8 and at 16. -/
theorem setPZSWritesThreeFlags : Obligations.SetPZSWritesThreeFlags := by
  constructor
  · intro psw r
    have hp : parityEven r = decide (popcount r % 2 = 0) := by simp [parityEven_eq_decide]
    exact ⟨(getFlag_setPZS_p psw r).trans hp, getFlag_setPZS_z psw r,
      (getFlag_setPZS_s psw r).trans (BitVec.msb_eq_getLsbD_last r), fun _ => getLsbD_setPZS_of_notMem psw r⟩
  · intro psw r
    exact ⟨(getFlag_setPZS_p psw r).trans (parityEven_eq_decide r), getFlag_setPZS_z psw r,
      (getFlag_setPZS_s psw r).trans (BitVec.msb_eq_getLsbD_last r), fun _ => getLsbD_setPZS_of_notMem psw r⟩

/-! ## `setPZSCYV` (R19) -/

@[simp] theorem getFlag_setPZSCYV_cy {w : Nat} (psw : Word) (r : BitVec w) (cy v : Bool) :
    getFlag (setPZSCYV psw r cy v) .cy = cy := by
  simp [setPZSCYV, getFlag_setFlag]

@[simp] theorem getFlag_setPZSCYV_v {w : Nat} (psw : Word) (r : BitVec w) (cy v : Bool) :
    getFlag (setPZSCYV psw r cy v) .v = v := by
  simp [setPZSCYV]

/-- Beyond CY and V it is `setPZS`. -/
theorem getLsbD_setPZSCYV_of_ne {w : Nat} (psw : Word) (r : BitVec w) (cy v : Bool) {k : Nat}
    (hcy : Flag.cy.bit ≠ k) (hv : Flag.v.bit ≠ k) :
    (setPZSCYV psw r cy v).getLsbD k = (setPZS psw r).getLsbD k := by
  rw [setPZSCYV, getLsbD_setFlag, if_neg hv.symm, getLsbD_setFlag, if_neg hcy.symm]

theorem getFlag_setPZSCYV_of_mem {w : Nat} (psw : Word) (r : BitVec w) (cy v : Bool) {f : Flag}
    (hf : f ∈ [Flag.p, .z, .s]) : getFlag (setPZSCYV psw r cy v) f = getFlag (setPZS psw r) f :=
  have apart : ∀ g ∈ [Flag.p, .z, .s], Flag.cy.bit ≠ g.bit ∧ Flag.v.bit ≠ g.bit := by decide
  getLsbD_setPZSCYV_of_ne psw r cy v (apart f hf).1 (apart f hf).2

theorem getLsbD_setPZSCYV_of_forall_ne {w : Nat} (psw : Word) (r : BitVec w) (cy v : Bool) {k : Nat}
    (hk : ∀ f ∈ [Flag.p, .z, .s, .cy, .v], f.bit ≠ k) : (setPZSCYV psw r cy v).getLsbD k = psw.getLsbD k := by
  simp only [List.forall_mem_cons] at hk
  obtain ⟨hp, hz, hs, hcy, hv, -⟩ := hk
  rw [getLsbD_setPZSCYV_of_ne psw r cy v hcy hv]
  exact getLsbD_setPZS_of_notMem psw r (by simp [hp.symm, hz.symm, hs.symm])

/-- Settles O27: one argument at any width, CY and V set last over `setPZS`. -/
theorem setPZSCYVWritesFiveFlags : Obligations.SetPZSCYVWritesFiveFlags := by
  constructor <;> intro psw r cy v <;>
    exact ⟨getFlag_setPZSCYV_cy psw r cy v, getFlag_setPZSCYV_v psw r cy v,
      fun _ => getFlag_setPZSCYV_of_mem psw r cy v, fun _ => getLsbD_setPZSCYV_of_forall_ne psw r cy v⟩

/-! ## Registers (R32) -/

/-- Settles O24: each clause is the read-after-write law of its accessor. -/
theorem registersRoundTrip : Obligations.RegistersRoundTrip := by
  intro s
  refine ⟨s.reg16_setReg16_same, s.sreg_setSReg_same, s.setPc_pc, s.setPsw_psw, s.reg8_setReg8_same, ?_⟩
  intro h k v hne
  rw [s.reg8_setReg8, if_neg hne]

/-! ## Byte registers as views (R11) -/

theorem getLsbD_wordOf (hi lo : Byte) (i : Nat) :
    (wordOf hi lo).getLsbD i = if i < 8 then lo.getLsbD i else hi.getLsbD (i - 8) := by
  rw [wordOf, BitVec.getLsbD_append]

/-- Writing the L half is the mask 0xFF00 and an OR. -/
theorem wordOf_hiByte_eq_mask (w : Word) (v : Byte) : wordOf (hiByte w) v = (w &&& 0xFF00) ||| v.setWidth 16 := by
  apply BitVec.eq_of_getLsbD_eq
  intro i hi
  have mask : (0xFF00 : Word).getLsbD i = decide (8 ≤ i) := by revert i; decide
  rw [getLsbD_wordOf, BitVec.getLsbD_or, BitVec.getLsbD_and, mask]
  rcases Nat.lt_or_ge i 8 with h | h
  · simp [h, hi]
  · have hlow : i - 8 < 8 := by omega
    simp [h, hlow, Nat.not_lt.mpr h, hiByte]

/-- Writing the H half is the mask 0x00FF and an OR. -/
theorem wordOf_loByte_eq_mask (w : Word) (v : Byte) :
    wordOf v (loByte w) = (w &&& (0x00FF : Word)) ||| (v.setWidth 16 <<< 8) := by
  apply BitVec.eq_of_getLsbD_eq
  intro i hi
  have mask : (0x00FF : Word).getLsbD i = decide (i < 8) := by revert i; decide
  rw [getLsbD_wordOf, BitVec.getLsbD_or, BitVec.getLsbD_and, mask]
  rcases Nat.lt_or_ge i 8 with h | h
  · simp [h, loByte]
  · simp [Nat.not_lt.mpr h, hi]

namespace State

variable (s : State)

theorem reg8_setReg16_parentOf (h : Reg8) (v : Word) :
    (s.setReg16 (parentOf h) v).reg8 h = if isHighHalf h then hiByte v else loByte v := by
  simp [reg8]

theorem reg16_eq_wordOf_halves (hi lo : Reg8) (hp : parentOf hi = parentOf lo) (hh : isHighHalf hi = true)
    (hl : isHighHalf lo = false) : s.reg16 (parentOf lo) = wordOf (s.reg8 hi) (s.reg8 lo) := by
  simp [reg8, hp, hh, hl]

theorem setReg8_eq_setReg16_mask (h : Reg8) (v : Byte) :
    s.setReg8 h v = s.setReg16 (parentOf h)
      (if isHighHalf h then (s.reg16 (parentOf h) &&& (0x00FF : Word)) ||| (v.setWidth 16 <<< 8)
       else (s.reg16 (parentOf h) &&& 0xFF00) ||| v.setWidth 16) := by
  rw [setReg8, wordOf_loByte_eq_mask, wordOf_hiByte_eq_mask]

end State

/-- "SP, BP, IX, IY" have no byte views (R11). -/
theorem parentOf_notMem (h : Reg8) : parentOf h ∉ [Reg16.sp, .bp, .ix, .iy] := by
  cases h <;> decide

/-- Settles O25: each law of a byte register and its parent, taken at the eight byte registers. -/
theorem byteViewsAreBitsOfTheWord : Obligations.ByteViewsAreBitsOfTheWord := by
  intro s
  refine ⟨fun v => ?reads, ?word, fun v => ?writes, ?noView, fun v r h => ?others⟩
  case reads =>
    have read := fun h => s.reg8_setReg16_parentOf h v
    exact ⟨read .al, read .ah, read .bl, read .bh, read .cl, read .ch, read .dl, read .dh⟩
  case word =>
    have halves := s.reg16_eq_wordOf_halves
    exact ⟨halves .ah .al rfl rfl rfl, halves .bh .bl rfl rfl rfl,
      halves .ch .cl rfl rfl rfl, halves .dh .dl rfl rfl rfl⟩
  case writes =>
    have write := fun h => s.setReg8_eq_setReg16_mask h v
    exact ⟨write .al, write .ah, write .bl, write .bh, write .cl, write .ch, write .dl, write .dh⟩
  case noView =>
    intro r v hr h
    exact s.reg8_setReg16 r v fun he => parentOf_notMem h (he ▸ hr)
  case others => exact ⟨s.reg8_setPc v h, s.reg8_setPsw v h, s.reg8_setSReg r v h⟩

end Sys2Proof.Machine

/-! PROOFS. Memory (20_memory.md R41, R47): the physical address of a fetch, and the push: what its store reads back, and
that the override latch has no part in it. -/

namespace Sys2Proof.Machine

namespace State

/-! ## Segment translation (R41) -/

/-- The fetch offset PC + k wraps in 16 bits before the segment is added. -/
theorem codeByte_ofNat (s : State) (k : Nat) :
    s.codeByte (BitVec.ofNat 16 k) = s.physRead ((s.ps.toNat * 16 + (s.pc.toNat + k) % 0x10000) % 0x100000) := by
  have offset : (s.pc + BitVec.ofNat 16 k).toNat = (s.pc.toNat + k) % 0x10000 := by
    rw [BitVec.toNat_add, BitVec.toNat_ofNat, Nat.add_mod_mod]
  rw [codeByte, memRead8, phys, offset]

/-! ## Reading back the bytes of a word store (R43) -/

theorem memRead8_memWrite16_low {s : State} (h : s.wf = true) (seg off v : Word) :
    (s.memWrite16 seg off v).memRead8 seg off = loByte v := by
  rw [memWrite16, memRead8_memWrite8_other _ _ _ _ (cellAt_ne _ seg (add_one_ne off).symm),
    memRead8_memWrite8_same h]

theorem memRead8_memWrite16_high {s : State} (h : s.wf = true) (seg off v : Word) :
    (s.memWrite16 seg off v).memRead8 seg (off + 1) = hiByte v :=
  memRead8_memWrite8_same (wf_memWrite8 h _ _ _) _ _ _

/-! ## The override latch and explicit-segment stores (R44, R47) -/

theorem setReg16_setSegOverride (s : State) (o : Option SReg) (r : Reg16) (v : Word) :
    (s.setSegOverride o).setReg16 r v = (s.setReg16 r v).setSegOverride o := by
  cases r <;> rfl

theorem physWrite_setSegOverride (s : State) (o : Option SReg) (a : Nat) (v : Byte) :
    (s.setSegOverride o).physWrite a v = (s.physWrite a v).setSegOverride o := by
  unfold physWrite
  rw [selectsExtended_setSegOverride]
  split <;> rfl

theorem memWrite16_setSegOverride (s : State) (o : Option SReg) (seg off v : Word) :
    (s.setSegOverride o).memWrite16 seg off v = (s.memWrite16 seg off v).setSegOverride o := by
  simp only [memWrite16, memWrite8, physWrite_setSegOverride]

/-! ## Push (R47) -/

theorem push16_of_sp_lt (s : State) (v : Word) (h : s.sp.toNat < 2) :
    s.push16 v = .error (.stackOverflow s.sp) := if_pos h

theorem push16_of_le_sp (s : State) (v : Word) (h : 2 ≤ s.sp.toNat) :
    s.push16 v = .ok ((s.setReg16 .sp (s.sp - 2)).memWrite16 s.ss (s.sp - 2) v) := if_neg (Nat.not_lt.mpr h)

theorem push16_setSegOverride (s : State) (o : Option SReg) (v : Word) :
    (s.setSegOverride o).push16 v = (s.push16 v).map fun t => t.setSegOverride o := by
  rcases Nat.lt_or_ge s.sp.toNat 2 with h | h
  · rw [push16_of_sp_lt s v h, push16_of_sp_lt (s.setSegOverride o) v h]
    rfl
  · rw [push16_of_le_sp s v h, push16_of_le_sp (s.setSegOverride o) v h, setReg16_setSegOverride,
      memWrite16_setSegOverride]
    rfl

end State

/-- Settles O28: the data accesses go through `phys` by definition, the fetch through its wrapped offset. -/
theorem segmentTranslation : Obligations.SegmentTranslation :=
  ⟨fun seg off => ⟨rfl, State.phys_lt seg off⟩, rfl, fun _ _ _ _ => ⟨rfl, rfl⟩, State.codeByte_ofNat⟩

/-- Settles O31: the two cases of a push, the frame and the bytes of its store, and its indifference to the latch. -/
theorem pushStoresBelowTheStackPointer : Obligations.PushStoresBelowTheStackPointer := by
  intro s v
  refine ⟨s.push16_of_sp_lt v, fun hsp => ?_, fun o => s.push16_setSegOverride o v⟩
  have pushed := s.push16_of_le_sp v hsp
  refine ⟨_, pushed, ?sp, ?pc, s.onlyChanges_push16 pushed, fun hwf => ?bytes⟩
  case sp => exact State.reg16_memWrite16 _ _ _ _ .sp
  case pc => rw [State.memWrite16_pc, State.setReg16_pc]
  case bytes =>
    have hwf' := State.wf_setReg16 hwf .sp (s.sp - 2)
    exact ⟨State.memRead8_memWrite16_low hwf' _ _ v, State.memRead8_memWrite16_high hwf' _ _ v⟩

end Sys2Proof.Machine

/-! PROOFS. Faults (60_exceptions.md R305, R306): the decoder reads every six bytes, an instruction's rule raises only the
faults of R301 to R304, so no step records the invariant violation. -/

namespace Sys2Proof

/-! ## Six bytes always decode (30_encoding.md R70, R80) -/

/-- The decoder's answer is an instruction, not the refusal of a truncated list. -/
def Decodes (d : Decoded) : Prop := ∃ i rest, d = .ok (i, rest)

variable {bs : List Byte}

@[simp] theorem decodes_ok (i : Instr) (rest : List Byte) : Decodes (.ok (i, rest)) := ⟨i, rest, rfl⟩

theorem decodes_ite {p : Prop} [Decidable p] {d e : Decoded} (hd : Decodes d) (he : Decodes e) :
    Decodes (if p then d else e) := by
  split
  · exact hd
  · exact he

theorem decodes_takeByte {k : Byte → List Byte → Decoded} (h : 1 ≤ bs.length)
    (hk : ∀ b rest, rest.length + 1 = bs.length → Decodes (k b rest)) : Decodes (takeByte bs k) := by
  cases bs with
  | nil => simp at h
  | cons b rest => exact hk b rest rfl

theorem decodes_takeWord {k : Word → List Byte → Decoded} (h : 2 ≤ bs.length)
    (hk : ∀ v rest, rest.length + 2 = bs.length → Decodes (k v rest)) : Decodes (takeWord bs k) :=
  decodes_takeByte (by omega) fun _ _ h₁ => decodes_takeByte (by omega) fun _ _ h₂ => hk _ _ (by omega)

/-- A ModRM byte has at most two displacement bytes (R73). -/
theorem decodes_takeRM {ρ : Type} {ofCode : BitVec 3 → ρ} {k : BitVec 3 → RM ρ → List Byte → Decoded}
    (h : 3 ≤ bs.length) (hk : ∀ reg rm rest, bs.length ≤ rest.length + 3 → Decodes (k reg rm rest)) :
    Decodes (takeRM ofCode bs k) := by
  refine decodes_takeByte (by omega) fun m rest hm => ?_
  split
  · split
    · exact decodes_takeWord (by omega) fun _ _ _ => hk _ _ _ (by omega)
    · exact hk _ _ _ (by omega)
  · exact decodes_takeByte (by omega) fun _ _ _ => hk _ _ _ (by omega)
  · exact decodes_takeWord (by omega) fun _ _ _ => hk _ _ _ (by omega)
  · exact hk _ _ _ (by omega)

theorem decodes_takeRM8 {k : BitVec 3 → RM8 → List Byte → Decoded} (h : 3 ≤ bs.length)
    (hk : ∀ reg rm rest, bs.length ≤ rest.length + 3 → Decodes (k reg rm rest)) : Decodes (takeRM8 bs k) :=
  decodes_takeRM h hk

theorem decodes_takeRM16 {k : BitVec 3 → RM16 → List Byte → Decoded} (h : 3 ≤ bs.length)
    (hk : ∀ reg rm rest, bs.length ≤ rest.length + 3 → Decodes (k reg rm rest)) : Decodes (takeRM16 bs k) :=
  decodes_takeRM h hk

@[simp] theorem decodes_imm8 (c : Byte → Instr) (h : 1 ≤ bs.length) : Decodes (imm8 c bs) :=
  decodes_takeByte h fun _ _ _ => decodes_ok _ _

@[simp] theorem decodes_imm16 (c : Word → Instr) (h : 2 ≤ bs.length) : Decodes (imm16 c bs) :=
  decodes_takeWord h fun _ _ _ => decodes_ok _ _

@[simp] theorem decodes_far (c : Word → Word → Instr) (h : 4 ≤ bs.length) : Decodes (far c bs) :=
  decodes_takeWord (by omega) fun _ _ _ => decodes_takeWord (by omega) fun _ _ _ => decodes_ok _ _

@[simp] theorem decodes_rmReg8 (c : RM8 → Reg8 → Instr) (h : 3 ≤ bs.length) : Decodes (rmReg8 c bs) :=
  decodes_takeRM8 h fun _ _ _ _ => decodes_ok _ _

@[simp] theorem decodes_rmReg16 (c : RM16 → Reg16 → Instr) (h : 3 ≤ bs.length) : Decodes (rmReg16 c bs) :=
  decodes_takeRM16 h fun _ _ _ _ => decodes_ok _ _

@[simp] theorem decodes_regRm8 (c : Reg8 → RM8 → Instr) (h : 3 ≤ bs.length) : Decodes (regRm8 c bs) :=
  decodes_takeRM8 h fun _ _ _ _ => decodes_ok _ _

@[simp] theorem decodes_regRm16 (c : Reg16 → RM16 → Instr) (h : 3 ≤ bs.length) : Decodes (regRm16 c bs) :=
  decodes_takeRM16 h fun _ _ _ _ => decodes_ok _ _

@[simp] theorem decodes_rmImm8 {ρ : Type} (c : RM ρ → Byte → Instr) (rm : RM ρ) (h : 1 ≤ bs.length) :
    Decodes (rmImm8 c rm bs) :=
  decodes_takeByte h fun _ _ _ => decodes_ok _ _

@[simp] theorem decodes_rmImm16 {ρ : Type} (c : RM ρ → Word → Instr) (rm : RM ρ) (h : 2 ≤ bs.length) :
    Decodes (rmImm16 c rm bs) :=
  decodes_takeWord h fun _ _ _ => decodes_ok _ _

@[simp] theorem decodes_plain (c : Instr) : Decodes (plain c bs) := decodes_ok _ _

@[simp] theorem decodes_opReg16 (c : Reg16 → Instr) (op : Byte) : Decodes (opReg16 c op bs) := decodes_ok _ _

@[simp] theorem decodes_decodeGroup80 (h : 5 ≤ bs.length) : Decodes (decodeGroup80 bs) :=
  decodes_takeRM8 (by omega) fun _ _ _ _ => by split <;> simp (disch := omega)

@[simp] theorem decodes_decodeGroup81 (h : 5 ≤ bs.length) : Decodes (decodeGroup81 bs) :=
  decodes_takeRM16 (by omega) fun _ _ _ _ => by split <;> simp (disch := omega)

@[simp] theorem decodes_decodeGroup83 (h : 5 ≤ bs.length) : Decodes (decodeGroup83 bs) :=
  decodes_takeRM16 (by omega) fun _ _ _ _ => by split <;> simp (disch := omega)

@[simp] theorem decodes_decodeGroup8C (h : 5 ≤ bs.length) : Decodes (decodeGroup8C bs) :=
  decodes_takeRM16 (by omega) fun _ _ _ _ => by split <;> simp (disch := omega)

@[simp] theorem decodes_decodeGroup8E (h : 5 ≤ bs.length) : Decodes (decodeGroup8E bs) :=
  decodes_takeRM16 (by omega) fun _ _ _ _ => by split <;> simp (disch := omega)

@[simp] theorem decodes_decodeGroupC0 (h : 5 ≤ bs.length) : Decodes (decodeGroupC0 bs) :=
  decodes_takeRM8 (by omega) fun _ _ _ _ => by split <;> simp (disch := omega)

@[simp] theorem decodes_decodeGroupC1 (h : 5 ≤ bs.length) : Decodes (decodeGroupC1 bs) :=
  decodes_takeRM16 (by omega) fun _ _ _ _ => by split <;> simp (disch := omega)

@[simp] theorem decodes_decodeGroupC6 (h : 5 ≤ bs.length) : Decodes (decodeGroupC6 bs) :=
  decodes_takeRM8 (by omega) fun _ _ _ _ => by split <;> simp (disch := omega)

@[simp] theorem decodes_decodeGroupC7 (h : 5 ≤ bs.length) : Decodes (decodeGroupC7 bs) :=
  decodes_takeRM16 (by omega) fun _ _ _ _ => by split <;> simp (disch := omega)

@[simp] theorem decodes_decodeGroupD0 (h : 5 ≤ bs.length) : Decodes (decodeGroupD0 bs) :=
  decodes_takeRM8 (by omega) fun _ _ _ _ => by split <;> simp (disch := omega)

@[simp] theorem decodes_decodeGroupD1 (h : 5 ≤ bs.length) : Decodes (decodeGroupD1 bs) :=
  decodes_takeRM16 (by omega) fun _ _ _ _ => by split <;> simp (disch := omega)

@[simp] theorem decodes_decodeGroupD2 (h : 5 ≤ bs.length) : Decodes (decodeGroupD2 bs) :=
  decodes_takeRM8 (by omega) fun _ _ _ _ => by split <;> simp (disch := omega)

@[simp] theorem decodes_decodeGroupD3 (h : 5 ≤ bs.length) : Decodes (decodeGroupD3 bs) :=
  decodes_takeRM16 (by omega) fun _ _ _ _ => by split <;> simp (disch := omega)

@[simp] theorem decodes_decodeGroupF6 (h : 5 ≤ bs.length) : Decodes (decodeGroupF6 bs) :=
  decodes_takeRM8 (by omega) fun _ _ _ _ => by split <;> simp (disch := omega)

@[simp] theorem decodes_decodeGroupF7 (h : 5 ≤ bs.length) : Decodes (decodeGroupF7 bs) :=
  decodes_takeRM16 (by omega) fun _ _ _ _ => by split <;> simp (disch := omega)

@[simp] theorem decodes_decodeEsc (h : 2 ≤ bs.length) : Decodes (decodeEsc bs) :=
  decodes_takeByte (by omega) fun _ _ _ => by
    repeat' apply decodes_ite
    all_goals simp (disch := omega)

@[simp] theorem decodes_decodeRep (h : 1 ≤ bs.length) : Decodes (decodeRep bs) :=
  decodes_takeByte h fun _ _ _ => by
    repeat' apply decodes_ite
    all_goals exact decodes_ok _ _

theorem decodes_decodeOp (op : Byte) (h : 5 ≤ bs.length) : Decodes (decodeOp op bs) := by
  unfold decodeOp decodeRow0 decodeRow1 decodeRow2 decodeRow3 decodeRow4 decodeRow5 decodeRow6 decodeRow7 decodeRow8
    decodeRow9 decodeRowA decodeRowB decodeRowC decodeRowD decodeRowE decodeRowF
  split <;> split <;> simp (disch := omega)

/-- The longest instruction has six bytes (R70). -/
theorem decodes_decode (h : 6 ≤ bs.length) : Decodes (decode bs) :=
  decodes_takeByte (by omega) fun op _ _ => decodes_decodeOp op (by omega)

end Sys2Proof

namespace Sys2Proof.Machine

/-! ## What an instruction does to `halted` (R300 to R304) -/

/-- The faults that rules of instructions raise (R301 to R304). -/
def Fault.ofInstruction : Fault → Bool
  | .unimplemented _ _ | .stackOverflow _ | .divideError _ _ | .undefinedEncoding _ _ => true
  | .invariantViolation | .imageTooLarge _ => false

/-- Started with `h` recorded, the result is a next state that records `h` still, or the raise of an instruction's fault. -/
inductive HaltedAfter (h : Option Fault) : Result → Prop where
  | kept {t : State} (same : t.halted = h) : HaltedAfter h (.next t)
  | raised {u : State} {f : Fault} (hf : f.ofInstruction = true) : HaltedAfter h (u.raise f)

theorem HaltedAfter.ite {h : Option Fault} {p : Prop} [Decidable p] {a b : Result} (ha : HaltedAfter h a)
    (hb : HaltedAfter h b) : HaltedAfter h (if p then a else b) := by
  split
  · exact ha
  · exact hb

namespace State

variable (s : State)

@[simp] theorem setReg8_halted (r : Reg8) (v : Byte) : (s.setReg8 r v).halted = s.halted :=
  (s.onlyChanges_setReg8 r v).halted
@[simp] theorem memWrite8_halted (seg off : Word) (v : Byte) : (s.memWrite8 seg off v).halted = s.halted :=
  (s.onlyChanges_memWrite8 seg off v).halted
@[simp] theorem memWrite16_halted (seg off v : Word) : (s.memWrite16 seg off v).halted = s.halted :=
  (s.onlyChanges_memWrite16 seg off v).halted
@[simp] theorem write8_halted (x : Place Reg8) (v : Byte) : (s.write8 x v).halted = s.halted :=
  (s.onlyChanges_write8 x v).halted
@[simp] theorem write16_halted (x : Place Reg16) (v : Word) : (s.write16 x v).halted = s.halted :=
  (s.onlyChanges_write16 x v).halted
@[simp] theorem output8_halted (p : Word) (v : Byte) : (s.output8 p v).halted = s.halted :=
  (s.onlyChanges_output8 p v).halted
@[simp] theorem output16_halted (p v : Word) : (s.output16 p v).halted = s.halted :=
  (s.onlyChanges_output16 p v).halted
@[simp] theorem flipXa_halted : s.flipXa.halted = s.halted := rfl
@[simp] theorem pop16_halted : s.pop16.2.halted = s.halted := s.onlyChanges_pop16.halted

theorem push16_halted {v : Word} {t : State} (h : s.push16 v = .ok t) : t.halted = s.halted :=
  (s.onlyChanges_push16 h).halted

/-- The one fault of a push is StackOverflow (R302). -/
theorem push16_error_ofInstruction {v : Word} {f : Fault} (h : s.push16 v = .error f) : f.ofInstruction = true := by
  rcases s.push16_cases v with ⟨-, k⟩ | ⟨-, k⟩
  · rw [k] at h; cases h; rfl
  · rw [k] at h; cases h

@[simp] theorem branch_halted (disp : Word) : (s.branch disp).halted = s.halted := rfl
@[simp] theorem farJump_halted (seg off : Word) : (s.farJump seg off).halted = s.halted := by simp [farJump]
@[simp] theorem fetched_halted (n : Nat) : (s.fetched n).halted = s.halted := rfl
@[simp] theorem endStep_halted (op : Byte) (cost : Nat) : (s.endStep op cost).halted = s.halted := rfl

end State

variable (s : State)

@[simp] theorem moveIx_halted (n : Word) : (moveIx s n).halted = s.halted := s.setReg16_halted _ _
@[simp] theorem moveIy_halted (n : Word) : (moveIy s n).halted = s.halted := s.setReg16_halted _ _

@[simp] theorem movbk8_halted : (movbk8 s).halted = s.halted := by simp [movbk8]
@[simp] theorem movbk16_halted : (movbk16 s).halted = s.halted := by simp [movbk16]
@[simp] theorem stm8_halted : (stm8 s).halted = s.halted := by simp [stm8]
@[simp] theorem stm16_halted : (stm16 s).halted = s.halted := by simp [stm16]
@[simp] theorem ldm8_halted : (ldm8 s).halted = s.halted := by simp [ldm8]
@[simp] theorem ldm16_halted : (ldm16 s).halted = s.halted := by simp [ldm16]
@[simp] theorem outm8_halted : (outm8 s).halted = s.halted := by simp [outm8]
@[simp] theorem outm16_halted : (outm16 s).halted = s.halted := by simp [outm16]
@[simp] theorem inm8_halted : (inm8 s).halted = s.halted := by simp [inm8]
@[simp] theorem inm16_halted : (inm16 s).halted = s.halted := by simp [inm16]

theorem repeatBody_halted {body : State → State} (hbody : ∀ u, (body u).halted = u.halted) (n : Nat) :
    ∀ s, (repeatBody body n s).halted = s.halted := by
  induction n with
  | zero => exact fun _ => rfl
  | succ n ih => intro s; rw [repeatBody, ih, State.setReg16_halted, hbody]

theorem haltedAfter_repLoop {body : State → State} (hbody : ∀ u, (body u).halted = u.halted) :
    HaltedAfter s.halted (.next (repLoop body s)) := .kept (repeatBody_halted hbody _ s)

theorem haltedAfter_alu8 (op : AluOp) (dst : Place Reg8) (a b : Byte) : HaltedAfter s.halted (alu8 op dst a b s) :=
  .kept (by cases op <;> simp [aluStores])

theorem haltedAfter_alu16 (op : AluOp) (dst : Place Reg16) (a b : Word) : HaltedAfter s.halted (alu16 op dst a b s) :=
  .kept (by cases op <;> simp [aluStores])

theorem haltedAfter_shift8 (op : ShiftOp) (rm : RM8) (n : Byte) : HaltedAfter s.halted (shift8 op rm n s) :=
  .ite (.kept rfl) (.kept (by simp))

theorem haltedAfter_shift16 (op : ShiftOp) (rm : RM16) (n : Byte) : HaltedAfter s.halted (shift16 op rm n s) :=
  .ite (.kept rfl) (.kept (by simp))

theorem haltedAfter_branchIf (cond : Bool) (disp : Byte) : HaltedAfter s.halted (branchIf cond disp s) :=
  .kept (by cases cond <;> simp)

theorem haltedAfter_pushValue (v : Word) : HaltedAfter s.halted (pushValue v s) := by
  unfold pushValue
  split
  case h_1 pushed => exact .kept (s.push16_halted pushed)
  case h_2 overflow => exact .raised (s.push16_error_ofInstruction overflow)

theorem haltedAfter_callNear (disp : Word) : HaltedAfter s.halted (execCallNear disp s) := by
  unfold execCallNear
  split
  case h_1 t pushed => exact .kept ((t.branch_halted disp).trans (s.push16_halted pushed))
  case h_2 overflow => exact .raised (s.push16_error_ofInstruction overflow)

theorem haltedAfter_callFar (off seg : Word) : HaltedAfter s.halted (execCallFar off seg s) := by
  unfold execCallFar
  split
  case h_1 overflow => exact .raised (s.push16_error_ofInstruction overflow)
  case h_2 t pushed =>
    split
    case h_1 overflow => exact .raised (t.push16_error_ofInstruction overflow)
    case h_2 u pushed' =>
      exact .kept ((u.farJump_halted seg off).trans ((t.push16_halted pushed').trans (s.push16_halted pushed)))

/-- All that an instruction can do to `halted`. The rows not named are the 143 that only raise. -/
theorem haltedAfter_exec (i : Instr) : HaltedAfter s.halted (exec i s) := by
  cases i
  case addRm8Reg8 | addReg8Rm8 | addAlImm8 | orRm8Reg8 | orReg8Rm8 | orAlImm8 | andRm8Reg8 | andReg8Rm8 |
      andAlImm8 | subRm8Reg8 | subReg8Rm8 | subAlImm8 | xorRm8Reg8 | xorReg8Rm8 | xorAlImm8 | cmpRm8Reg8 |
      cmpReg8Rm8 | cmpAlImm8 | addRm8Imm8 | orRm8Imm8 | andRm8Imm8 | subRm8Imm8 | xorRm8Imm8 | cmpRm8Imm8 =>
    exact haltedAfter_alu8 _ _ _ _ _
  case addRm16Reg16 | addReg16Rm16 | addAwImm16 | orRm16Reg16 | orReg16Rm16 | orAwImm16 | andRm16Reg16 |
      andReg16Rm16 | andAwImm16 | subRm16Reg16 | subReg16Rm16 | subAwImm16 | xorRm16Reg16 | xorReg16Rm16 |
      xorAwImm16 | cmpRm16Reg16 | cmpReg16Rm16 | cmpAwImm16 | addRm16Imm16 | orRm16Imm16 | andRm16Imm16 |
      subRm16Imm16 | xorRm16Imm16 | cmpRm16Imm16 | addRm16Simm8 | orRm16Simm8 | andRm16Simm8 | subRm16Simm8 |
      xorRm16Simm8 | cmpRm16Simm8 =>
    exact haltedAfter_alu16 _ _ _ _ _
  case incReg16 | decReg16 => exact .kept (by simp)
  case rolRm8Imm8 | rorRm8Imm8 | rolcRm8Imm8 | rorcRm8Imm8 | shlRm8Imm8 | shrRm8Imm8 | shraRm8Imm8 | rolRm8Cl |
      rorRm8Cl | rolcRm8Cl | rorcRm8Cl | shlRm8Cl | shrRm8Cl | shraRm8Cl =>
    exact haltedAfter_shift8 _ _ _ _
  case rolRm8One | rorRm8One | rolcRm8One | rorcRm8One | shlRm8One | shrRm8One | shraRm8One =>
    exact haltedAfter_shift8 _ _ _ 1
  case rolRm16Imm8 | rorRm16Imm8 | rolcRm16Imm8 | rorcRm16Imm8 | shlRm16Imm8 | shrRm16Imm8 | shraRm16Imm8 |
      rolRm16Cl | rorRm16Cl | rolcRm16Cl | rorcRm16Cl | shlRm16Cl | shrRm16Cl | shraRm16Cl =>
    exact haltedAfter_shift16 _ _ _ _
  case rolRm16One | rorRm16One | rolcRm16One | rorcRm16One | shlRm16One | shrRm16One | shraRm16One =>
    exact haltedAfter_shift16 _ _ _ 1
  case divuRm8 | divRm8 | divuRm16 | divRm16 => exact .ite (.raised rfl) (.kept (by simp))
  case bv | bnv | bc | bnc | be | bne | bnh | bh | bn | bp | bpe | bpo | blt | bge | ble | bgt =>
    exact haltedAfter_branchIf _ _ _
  case brNear | brFar | brShort | retNear | retFar | brkxa | retxa => exact .kept (by simp)
  case callNear => exact haltedAfter_callNear _ _
  case callFar => exact haltedAfter_callFar _ _ _
  case pushDs1 | pushPs | pushSs | pushDs0 | pushReg16 | pushPsw => exact haltedAfter_pushValue _ _
  case popDs1 | popSs | popDs0 | popReg16 | popPsw => exact .kept (by simp)
  case movRm8Reg8 | movRm16Reg16 | movReg8Rm8 | movReg16Rm16 | movRm16Sreg | movDs1Rm16 | movSsDs0Rm16 |
      movAlDirect | movAwDirect | movDirectAl | movDirectAw | movReg8Imm8 | movReg16Imm16 | movRm8Imm8 |
      movRm16Imm16 =>
    exact .kept (by simp)
  case inAlImm8 | inAwImm8 | outImm8Al | outImm8Aw | inAlDw | inAwDw | outDwAl | outDwAw => exact .kept (by simp)
  case prefixDs1 | prefixPs | prefixSs | prefixDs0 => exact .kept rfl
  case inmByte | inmWord | outmByte | outmWord | movbkByte | movbkWord | stmByte | stmWord | ldmByte | ldmWord =>
    exact .kept (by simp)
  case repInmByte | repInmWord | repOutmByte | repOutmWord | repMovbkByte | repMovbkWord | repStmByte |
      repStmWord | repLdmByte | repLdmWord =>
    exact haltedAfter_repLoop _ (by simp)
  all_goals exact .raised rfl

/-! ## The step (R305) -/

theorem step_of_halted {s : State} {f : Fault} (h : s.halted = some f) : step s = .fault f := by
  rw [step, h]

/-- A running core runs the instruction its bytes decode to: the refusal branch of `runStep` is not taken. -/
theorem exists_step_eq_finishStep {s : State} (h : s.halted = none) : ∃ i rest, decode s.codeBytes = .ok (i, rest) ∧
    step s = finishStep (s.codeByte 0) (cycles i (s.fetched (6 - rest.length)))
      (exec i (s.fetched (6 - rest.length))) := by
  obtain ⟨i, rest, decoded⟩ := decodes_decode (Nat.le_refl s.codeBytes.length)
  exact ⟨i, rest, decoded, by rw [step, h]; simp only [runStep, decoded]⟩

/-- The end of a step does not touch `halted`. -/
theorem HaltedAfter.finishStep {h : Option Fault} {r : Result} (hr : HaltedAfter h r) (op : Byte) (cost : Nat) :
    HaltedAfter h (finishStep op cost r) := by
  cases hr with
  | kept same => exact .ite (.kept same) (.kept same)
  | raised hf => exact .raised hf

theorem haltedAfter_step {s : State} (h : s.halted = none) : HaltedAfter none (step s) := by
  obtain ⟨i, rest, -, step_eq⟩ := exists_step_eq_finishStep h
  have executed := haltedAfter_exec (s.fetched (6 - rest.length)) i
  rw [s.fetched_halted, h] at executed
  rw [step_eq]
  exact executed.finishStep _ _

/-- R305 is not among the faults of R301 to R304. -/
theorem HaltedAfter.next_ne_invariantViolation {t : State} (h : HaltedAfter none (.next t)) :
    t.halted ≠ some .invariantViolation := by
  cases h with
  | kept same => simp [same]
  | raised hf => rintro ⟨⟩; cases hf

theorem HaltedAfter.ne_fault {h : Option Fault} {r : Result} (hr : HaltedAfter h r) (f : Fault) : r ≠ .fault f := by
  cases hr <;> exact nofun

/-- Settles O17: a running core runs an instruction, whose rule raises other faults; a halted one answers its own. -/
theorem invariantViolationIsUnreachable : Obligations.InvariantViolationIsUnreachable := by
  intro s hs
  cases h : s.halted with
  | some f =>
    rw [step_of_halted h]
    refine ⟨?_, nofun⟩
    rintro ⟨⟩
    exact hs h
  | none =>
    have stepped := haltedAfter_step h
    exact ⟨stepped.ne_fault _, fun t next => (next ▸ stepped).next_ne_invariantViolation⟩

/-! ## Construction (R306) -/

/-- Settles O7: the two branches of `construct`. -/
theorem oversizedImageIsRefused : Obligations.OversizedImageIsRefused := by
  intro cfg image
  exact ⟨fun long => if_pos long, fun fits => ⟨_, if_neg (Nat.not_lt.mpr fits)⟩⟩

end Sys2Proof.Machine

/-! PROOFS. The encoder and the decoder are inverse to each other (30_encoding.md sections 1, 2, 6 to 9): the ModRM byte
with its displacement first, then one lemma per format of R70, then the rows of the table. -/

namespace Sys2Proof

open Machine (wordOf loByte hiByte)

/-! ## Register codes (10_state.md R12, R17; 30_encoding.md R73) -/

@[simp] theorem Reg8.ofCode_code (r : Reg8) : Reg8.ofCode r.code = r := by cases r <;> rfl
@[simp] theorem Reg16.ofCode_code (r : Reg16) : Reg16.ofCode r.code = r := by cases r <;> rfl
@[simp] theorem SReg.ofCode_code (r : SReg) : SReg.ofCode r.code = r := by cases r <;> rfl
@[simp] theorem Base.ofCode_code (b : Base) : Base.ofCode b.code = b := by cases b <;> rfl
@[simp] theorem Reg8.code_ofCode (c : BitVec 3) : (Reg8.ofCode c).code = c := by revert c; decide
@[simp] theorem Reg16.code_ofCode (c : BitVec 3) : (Reg16.ofCode c).code = c := by revert c; decide
@[simp] theorem Base.code_ofCode (c : BitVec 3) : (Base.ofCode c).code = c := by revert c; decide

/-- The base without the form of mode 0 has the code of the direct address. -/
theorem Base.code_eq_six {b : Base} : b.code = 6 ↔ b = .bp := by cases b <;> decide

/-- A property of the eight codes of a three-bit field. -/
theorem forall_code {p : BitVec 3 → Prop} (h : p 0 ∧ p 1 ∧ p 2 ∧ p 3 ∧ p 4 ∧ p 5 ∧ p 6 ∧ p 7) : ∀ c, p c := by
  obtain ⟨h0, h1, h2, h3, h4, h5, h6, h7⟩ := h
  have cases : ∀ c : BitVec 3, c = 0 ∨ c = 1 ∨ c = 2 ∨ c = 3 ∨ c = 4 ∨ c = 5 ∨ c = 6 ∨ c = 7 := by decide
  intro c
  rcases cases c with rfl | rfl | rfl | rfl | rfl | rfl | rfl | rfl <;> assumption

/-! ## The ModRM byte (R71) -/

@[simp] theorem modField_packModrm (mod : BitVec 2) (reg mem : BitVec 3) : modField (packModrm mod reg mem) = mod := by
  revert mod reg mem; decide
@[simp] theorem regField_packModrm (mod : BitVec 2) (reg mem : BitVec 3) : regField (packModrm mod reg mem) = reg := by
  revert mod reg mem; decide
@[simp] theorem memField_packModrm (mod : BitVec 2) (reg mem : BitVec 3) : memField (packModrm mod reg mem) = mem := by
  revert mod reg mem; decide
theorem packModrm_fields (m : Byte) : packModrm (modField m) (regField m) (memField m) = m := by
  revert m; decide

@[simp] theorem regField_modrm {ρ : Type} (code : ρ → BitVec 3) (reg : BitVec 3) (rm : RM ρ) :
    regField (rm.modrm code reg) = reg := by
  cases rm <;> simp [RM.modrm]

/-! ## The operand (R72 to R74) -/

theorem takeWord_bytes (v : Word) (bs : List Byte) (k : Word → List Byte → Decoded) :
    takeWord (loByte v :: hiByte v :: bs) k = k v bs := by
  simp [takeWord, takeByte]

theorem takeRM_modrm {ρ : Type} {ofCode : BitVec 3 → ρ} {code : ρ → BitVec 3} (hcode : ∀ r, ofCode (code r) = r)
    (reg : BitVec 3) {rm : RM ρ} (hrm : rm.wf = true) (bs : List Byte) (k : BitVec 3 → RM ρ → List Byte → Decoded) :
    takeRM ofCode (rm.modrm code reg :: (rm.dispBytes ++ bs)) k = k reg rm bs := by
  cases rm with
  | reg r => simp [takeRM, takeByte, RM.modrm, RM.dispBytes, hcode]
  | mem b =>
    have hb : b.code ≠ 6#3 := fun h => by simp [RM.wf, Base.code_eq_six.1 h] at hrm
    simp [takeRM, takeByte, RM.modrm, RM.dispBytes, hb]
  | direct a => simp [takeRM, takeByte, RM.modrm, RM.dispBytes, takeWord_bytes]
  | mem8 b d => simp [takeRM, takeByte, RM.modrm, RM.dispBytes]
  | mem16 b d => simp [takeRM, takeByte, RM.modrm, RM.dispBytes, takeWord_bytes]

/-! ## Decoding what was encoded, one lemma per format (R70) -/

variable {op : Byte} {rest : List Byte} {d : Decoded}

/-- Where the dispatch on `op` reads an r/m operand and goes on with `k`, that is
what it does with an encoded operand. -/
theorem decode_encRM8 {k : BitVec 3 → RM8 → List Byte → Decoded} {reg : BitVec 3} {rm : RM8} {tail : List Byte}
    (hop : ∀ bs, decodeOp op bs = takeRM8 bs k) (hrm : rm.wf = true) (hk : k reg rm (tail ++ rest) = d) :
    decode (encRM8 op reg rm tail ++ rest) = d := by
  rw [encRM8, List.cons_append, List.cons_append, List.append_assoc, ← hk]
  exact (hop _).trans (takeRM_modrm Reg8.ofCode_code reg hrm _ k)

/-- As `decode_encRM8`, word width. -/
theorem decode_encRM16 {k : BitVec 3 → RM16 → List Byte → Decoded} {reg : BitVec 3} {rm : RM16} {tail : List Byte}
    (hop : ∀ bs, decodeOp op bs = takeRM16 bs k) (hrm : rm.wf = true) (hk : k reg rm (tail ++ rest) = d) :
    decode (encRM16 op reg rm tail ++ rest) = d := by
  rw [encRM16, List.cons_append, List.cons_append, List.append_assoc, ← hk]
  exact (hop _).trans (takeRM_modrm Reg16.ofCode_code reg hrm _ k)

/-- The same through the group `g` that `op` selects (R78). -/
theorem decode_group8 (g : List Byte → Decoded) {k : BitVec 3 → RM8 → List Byte → Decoded} {reg : BitVec 3} {rm : RM8}
    {tail : List Byte} (hop : ∀ bs, decodeOp op bs = g bs) (hg : ∀ bs, g bs = takeRM8 bs k) (hrm : rm.wf = true)
    (hk : k reg rm (tail ++ rest) = d) : decode (encRM8 op reg rm tail ++ rest) = d :=
  decode_encRM8 (fun bs => (hop bs).trans (hg bs)) hrm hk

theorem decode_group16 (g : List Byte → Decoded) {k : BitVec 3 → RM16 → List Byte → Decoded} {reg : BitVec 3}
    {rm : RM16} {tail : List Byte} (hop : ∀ bs, decodeOp op bs = g bs) (hg : ∀ bs, g bs = takeRM16 bs k)
    (hrm : rm.wf = true) (hk : k reg rm (tail ++ rest) = d) : decode (encRM16 op reg rm tail ++ rest) = d :=
  decode_encRM16 (fun bs => (hop bs).trans (hg bs)) hrm hk

theorem decode_imm16 {c : Word → Instr} {v : Word} (hop : ∀ bs, decodeOp op bs = imm16 c bs) :
    decode (op :: wordBytes v ++ rest) = .ok (c v, rest) :=
  (hop _).trans (takeWord_bytes v rest _)

theorem decode_far {c : Word → Word → Instr} {off seg : Word} (hop : ∀ bs, decodeOp op bs = far c bs) :
    decode (op :: (wordBytes off ++ wordBytes seg) ++ rest) = .ok (c off seg, rest) :=
  (hop _).trans ((takeWord_bytes off _ _).trans (takeWord_bytes seg rest _))

theorem decode_rmReg8 {c : RM8 → Reg8 → Instr} {rm : RM8} {reg : Reg8} (hop : ∀ bs, decodeOp op bs = rmReg8 c bs)
    (hrm : rm.wf = true) : decode (encRM8 op reg.code rm [] ++ rest) = .ok (c rm reg, rest) :=
  decode_encRM8 hop hrm (by rw [Reg8.ofCode_code, List.nil_append])

theorem decode_regRm8 {c : Reg8 → RM8 → Instr} {rm : RM8} {reg : Reg8} (hop : ∀ bs, decodeOp op bs = regRm8 c bs)
    (hrm : rm.wf = true) : decode (encRM8 op reg.code rm [] ++ rest) = .ok (c reg rm, rest) :=
  decode_encRM8 hop hrm (by rw [Reg8.ofCode_code, List.nil_append])

theorem decode_rmReg16 {c : RM16 → Reg16 → Instr} {rm : RM16} {reg : Reg16} (hop : ∀ bs, decodeOp op bs = rmReg16 c bs)
    (hrm : rm.wf = true) : decode (encRM16 op reg.code rm [] ++ rest) = .ok (c rm reg, rest) :=
  decode_encRM16 hop hrm (by rw [Reg16.ofCode_code, List.nil_append])

theorem decode_regRm16 {c : Reg16 → RM16 → Instr} {rm : RM16} {reg : Reg16} (hop : ∀ bs, decodeOp op bs = regRm16 c bs)
    (hrm : rm.wf = true) : decode (encRM16 op reg.code rm [] ++ rest) = .ok (c reg rm, rest) :=
  decode_encRM16 hop hrm (by rw [Reg16.ofCode_code, List.nil_append])

/-! ## The bytes after 0F and F3: the masks of the table as ranges (R78, R84) -/

/-- A mask of high bits rounds down to a multiple. -/
theorem toNat_and_mask (v : Byte) :
    (v &&& 0x80#8).toNat = v.toNat / 128 * 128 ∧ (v &&& 0xC0#8).toNat = v.toNat / 64 * 64 ∧
    (v &&& 0xE0#8).toNat = v.toNat / 32 * 32 ∧ (v &&& 0xF0#8).toNat = v.toNat / 16 * 16 ∧
    (v &&& 0xF8#8).toNat = v.toNat / 8 * 8 ∧ (v &&& 0xFC#8).toNat = v.toNat / 4 * 4 ∧
    (v &&& 0xFE#8).toNat = v.toNat / 2 * 2 := by
  revert v; decide

theorem fits_iff_toNat (v mask pattern : Byte) :
    v.fits mask pattern = true ↔ (v &&& mask).toNat = pattern.toNat := by
  rw [BitVec.fits, beq_iff_eq, BitVec.toNat_inj]

theorem eq_iff_toNat (v w : Byte) : v = w ↔ v.toNat = w.toNat := BitVec.toNat_inj.symm

/-! The ranges of the register field of the group rows (R84). -/

theorem code_of_fits_4_0 {c : BitVec 3} (h : c.fits 4 0 = true) : c = 0 ∨ c = 1 ∨ c = 2 ∨ c = 3 := by
  revert c; decide
theorem code_of_fits_4_4 {c : BitVec 3} (h : c.fits 4 4 = true) : c = 4 ∨ c = 5 ∨ c = 6 ∨ c = 7 := by
  revert c; decide
theorem code_of_fits_6_2 {c : BitVec 3} (h : c.fits 6 2 = true) : c = 2 ∨ c = 3 := by revert c; decide
theorem code_of_fits_6_4 {c : BitVec 3} (h : c.fits 6 4 = true) : c = 4 ∨ c = 5 := by revert c; decide

/-- Settles O2: each row by the lemma of its format; the rows not named have no operand but a byte. -/
theorem encodedInstructionsDecode : Obligations.EncodedInstructionsDecode := by
  intro i rest h
  cases i
  case addRm8Reg8 | orRm8Reg8 | andRm8Reg8 | subRm8Reg8 | xorRm8Reg8 | cmpRm8Reg8 | movRm8Reg8 =>
    exact decode_rmReg8 (fun _ => rfl) h
  case addRm16Reg16 | orRm16Reg16 | andRm16Reg16 | subRm16Reg16 | xorRm16Reg16 | cmpRm16Reg16 | movRm16Reg16 =>
    exact decode_rmReg16 (fun _ => rfl) h
  case addReg8Rm8 | orReg8Rm8 | andReg8Rm8 | subReg8Rm8 | xorReg8Rm8 | cmpReg8Rm8 | movReg8Rm8 =>
    exact decode_regRm8 (fun _ => rfl) h
  case addReg16Rm16 | orReg16Rm16 | andReg16Rm16 | subReg16Rm16 | xorReg16Rm16 | cmpReg16Rm16 | movReg16Rm16 =>
    exact decode_regRm16 (fun _ => rfl) h
  case addAwImm16 | orAwImm16 | andAwImm16 | subAwImm16 | xorAwImm16 | cmpAwImm16 | movAlDirect | movAwDirect |
      movDirectAl | movDirectAw | callNear | brNear =>
    exact decode_imm16 fun _ => rfl
  case callFar | brFar =>
    exact decode_far fun _ => rfl
  case addRm8Imm8 | orRm8Imm8 | addcRm8Imm8Unimp | subcRm8Imm8Unimp | andRm8Imm8 | subRm8Imm8 | xorRm8Imm8 |
      cmpRm8Imm8 =>
    exact decode_group8 decodeGroup80 (fun _ => rfl) (fun _ => rfl) h rfl
  case addRm16Imm16 | orRm16Imm16 | andRm16Imm16 | subRm16Imm16 | xorRm16Imm16 | cmpRm16Imm16 =>
    exact decode_group16 decodeGroup81 (fun _ => rfl) (fun _ => rfl) h (takeWord_bytes _ rest _)
  case addcRm16Imm16Unimp | subcRm16Imm16Unimp =>
    exact decode_group16 decodeGroup81 (fun _ => rfl) (fun _ => rfl) h rfl
  case addRm16Simm8 | orRm16Simm8 | addcRm16Simm8Unimp | subcRm16Simm8Unimp | andRm16Simm8 | subRm16Simm8 |
      xorRm16Simm8 | cmpRm16Simm8 =>
    exact decode_group16 decodeGroup83 (fun _ => rfl) (fun _ => rfl) h rfl
  case movDs1Rm16 | movPsRm16Undef =>
    exact decode_group16 decodeGroup8E (fun _ => rfl) (fun _ => rfl) h rfl
  case rolRm8Imm8 | rorRm8Imm8 | rolcRm8Imm8 | rorcRm8Imm8 | shlRm8Imm8 | shrRm8Imm8 | shiftC0Undef | shraRm8Imm8 =>
    exact decode_group8 decodeGroupC0 (fun _ => rfl) (fun _ => rfl) h rfl
  case rolRm16Imm8 | rorRm16Imm8 | rolcRm16Imm8 | rorcRm16Imm8 | shlRm16Imm8 | shrRm16Imm8 | shiftC1Undef |
      shraRm16Imm8 =>
    exact decode_group16 decodeGroupC1 (fun _ => rfl) (fun _ => rfl) h rfl
  case movRm8Imm8 | movC6Undef1 =>
    exact decode_group8 decodeGroupC6 (fun _ => rfl) (fun _ => rfl) h rfl
  case movRm16Imm16 =>
    exact decode_group16 decodeGroupC7 (fun _ => rfl) (fun _ => rfl) h (takeWord_bytes _ rest _)
  case movC7Undef1 =>
    exact decode_group16 decodeGroupC7 (fun _ => rfl) (fun _ => rfl) h rfl
  case rolRm8One | rorRm8One | rolcRm8One | rorcRm8One | shlRm8One | shrRm8One | shiftD0Undef | shraRm8One =>
    exact decode_group8 decodeGroupD0 (fun _ => rfl) (fun _ => rfl) h rfl
  case rolRm16One | rorRm16One | rolcRm16One | rorcRm16One | shlRm16One | shrRm16One | shiftD1Undef | shraRm16One =>
    exact decode_group16 decodeGroupD1 (fun _ => rfl) (fun _ => rfl) h rfl
  case rolRm8Cl | rorRm8Cl | rolcRm8Cl | rorcRm8Cl | shlRm8Cl | shrRm8Cl | shiftD2Undef | shraRm8Cl =>
    exact decode_group8 decodeGroupD2 (fun _ => rfl) (fun _ => rfl) h rfl
  case rolRm16Cl | rorRm16Cl | rolcRm16Cl | rorcRm16Cl | shlRm16Cl | shrRm16Cl | shiftD3Undef | shraRm16Cl =>
    exact decode_group16 decodeGroupD3 (fun _ => rfl) (fun _ => rfl) h rfl
  case divuRm8 | divRm8 =>
    exact decode_group8 decodeGroupF6 (fun _ => rfl) (fun _ => rfl) h rfl
  case divuRm16 | divRm16 =>
    exact decode_group16 decodeGroupF7 (fun _ => rfl) (fun _ => rfl) h rfl
  case incReg16 reg | decReg16 reg | pushReg16 reg | popReg16 reg | movReg8Imm8 reg imm => cases reg <;> rfl
  case movReg16Imm16 reg imm => cases reg <;> exact decode_imm16 fun _ => rfl
  case movRm16Sreg src => cases src <;> exact decode_group16 decodeGroup8C (fun _ => rfl) (fun _ => rfl) h rfl
  case movSsDs0Rm16 dst rm =>
    obtain ⟨rfl | rfl, hrm⟩ : (dst = .ss ∨ dst = .ds0) ∧ rm.wf = true := by simpa [WellFormed] using h
    · exact decode_group16 decodeGroup8E (fun _ => rfl) (fun _ => rfl) hrm rfl
    · exact decode_group16 decodeGroup8E (fun _ => rfl) (fun _ => rfl) hrm rfl
  case movRm16SregUndef rm code =>
    obtain ⟨hrm, hcode⟩ := Bool.and_eq_true_iff.1 h
    rcases code_of_fits_4_4 hcode with rfl | rfl | rfl | rfl <;>
      exact decode_group16 decodeGroup8C (fun _ => rfl) (fun _ => rfl) hrm rfl
  case movSregRm16Undef rm code =>
    obtain ⟨hrm, hcode⟩ := Bool.and_eq_true_iff.1 h
    rcases code_of_fits_4_4 hcode with rfl | rfl | rfl | rfl <;>
      exact decode_group16 decodeGroup8E (fun _ => rfl) (fun _ => rfl) hrm rfl
  case movC6Undef4to7 rm code =>
    obtain ⟨hrm, hcode⟩ := Bool.and_eq_true_iff.1 h
    rcases code_of_fits_4_4 hcode with rfl | rfl | rfl | rfl <;>
      exact decode_group8 decodeGroupC6 (fun _ => rfl) (fun _ => rfl) hrm rfl
  case movC7Undef4to7 rm code =>
    obtain ⟨hrm, hcode⟩ := Bool.and_eq_true_iff.1 h
    rcases code_of_fits_4_4 hcode with rfl | rfl | rfl | rfl <;>
      exact decode_group16 decodeGroupC7 (fun _ => rfl) (fun _ => rfl) hrm rfl
  case movC6Undef2to3 rm code =>
    obtain ⟨hrm, hcode⟩ := Bool.and_eq_true_iff.1 h
    rcases code_of_fits_6_2 hcode with rfl | rfl <;>
      exact decode_group8 decodeGroupC6 (fun _ => rfl) (fun _ => rfl) hrm rfl
  case movC7Undef2to3 rm code =>
    obtain ⟨hrm, hcode⟩ := Bool.and_eq_true_iff.1 h
    rcases code_of_fits_6_2 hcode with rfl | rfl <;>
      exact decode_group16 decodeGroupC7 (fun _ => rfl) (fun _ => rfl) hrm rfl
  case groupF6Unimp0to3 rm code =>
    obtain ⟨hrm, hcode⟩ := Bool.and_eq_true_iff.1 h
    rcases code_of_fits_4_0 hcode with rfl | rfl | rfl | rfl <;>
      exact decode_group8 decodeGroupF6 (fun _ => rfl) (fun _ => rfl) hrm rfl
  case groupF7Unimp0to3 rm code =>
    obtain ⟨hrm, hcode⟩ := Bool.and_eq_true_iff.1 h
    rcases code_of_fits_4_0 hcode with rfl | rfl | rfl | rfl <;>
      exact decode_group16 decodeGroupF7 (fun _ => rfl) (fun _ => rfl) hrm rfl
  case groupF6Unimp4to5 rm code =>
    obtain ⟨hrm, hcode⟩ := Bool.and_eq_true_iff.1 h
    rcases code_of_fits_6_4 hcode with rfl | rfl <;>
      exact decode_group8 decodeGroupF6 (fun _ => rfl) (fun _ => rfl) hrm rfl
  case groupF7Unimp4to5 rm code =>
    obtain ⟨hrm, hcode⟩ := Bool.and_eq_true_iff.1 h
    rcases code_of_fits_6_4 hcode with rfl | rfl <;>
      exact decode_group16 decodeGroupF7 (fun _ => rfl) (fun _ => rfl) hrm rfl
  case escUnimp00 sub | escUnimp80 sub | escUnimpC0 sub | escUnimpE2 sub | escUnimpE4 sub | escUnimpE8 sub |
      escUnimpF2 sub | escUnimpF4 sub =>
    change decodeEsc (sub :: rest) = _
    simp only [WellFormed, decodeEsc, takeByte, fits_iff_toNat, eq_iff_toNat, toNat_and_mask, BitVec.ofNat_eq_ofNat,
      BitVec.toNat_ofNat, Nat.reducePow, Nat.reduceMod] at h ⊢
    repeat rw [if_neg (by omega)]
    exact if_pos (by omega)
  case repUnimp00 sub | repUnimp40 sub | repUnimp60 sub | repUnimp68 sub | repUnimp70 sub | repUnimp80 sub |
      repUnimpA0 sub | repUnimpA8 sub | repUnimpB0 sub =>
    change decodeRep (sub :: rest) = _
    simp only [WellFormed, decodeRep, takeByte, fits_iff_toNat, eq_iff_toNat, toNat_and_mask, BitVec.ofNat_eq_ofNat,
      BitVec.toNat_ofNat, Nat.reducePow, Nat.reduceMod] at h ⊢
    repeat rw [if_neg (by omega)]
    exact if_pos (by omega)
  case escUnimpF8 sub =>
    change decodeEsc (sub :: rest) = _
    simp only [WellFormed, decodeEsc, takeByte, fits_iff_toNat, eq_iff_toNat, toNat_and_mask, BitVec.ofNat_eq_ofNat,
      BitVec.toNat_ofNat, Nat.reducePow, Nat.reduceMod] at h ⊢
    repeat rw [if_neg (by omega)]
  case repUnimpC0 sub =>
    change decodeRep (sub :: rest) = _
    simp only [WellFormed, decodeRep, takeByte, fits_iff_toNat, eq_iff_toNat, toNat_and_mask, BitVec.ofNat_eq_ofNat,
      BitVec.toNat_ofNat, Nat.reducePow, Nat.reduceMod] at h ⊢
    repeat rw [if_neg (by omega)]
  all_goals rfl

end Sys2Proof

namespace Sys2Proof

open Machine (wordOf loByte hiByte)

/-! ## What decodes is the encoding of a well-formed instruction (R80, R81) -/

/-- Every instruction the decoder's answer `d` reads is well formed, and `bytes` are its encoding and what `d`
leaves. -/
def ReadsBack (bytes : List Byte) (d : Decoded) : Prop :=
  ∀ i rest, d = .ok (i, rest) → WellFormed i = true ∧ encode i ++ rest = bytes

variable {op o : Byte} {bs bytes : List Byte}

theorem readsBack_ok {i : Instr} {rest : List Byte} (hwf : WellFormed i = true) (henc : encode i ++ rest = bytes) :
    ReadsBack bytes (.ok (i, rest)) := by
  rintro _ _ ⟨⟩
  exact ⟨hwf, henc⟩

theorem readsBack_ite {p : Prop} [Decidable p] {d e : Decoded} (hd : p → ReadsBack bytes d)
    (he : ¬p → ReadsBack bytes e) : ReadsBack bytes (if p then d else e) := by
  split
  case isTrue hp => exact hd hp
  case isFalse hp => exact he hp

theorem readsBack_takeByte {k : Byte → List Byte → Decoded}
    (h : ∀ b rest, bs = b :: rest → ReadsBack bytes (k b rest)) :
    ReadsBack bytes (takeByte bs k) := by
  cases bs with
  | nil => rintro _ _ ⟨⟩
  | cons b rest => exact h b rest rfl

theorem readsBack_takeWord {k : Word → List Byte → Decoded}
    (h : ∀ v rest, bs = wordBytes v ++ rest → ReadsBack bytes (k v rest)) : ReadsBack bytes (takeWord bs k) := by
  refine readsBack_takeByte fun lo _ hlo => readsBack_takeByte fun hi rest hhi => h _ _ ?_
  simp [wordBytes, hlo, hhi]

/-- The ModRM byte and displacement that were read are those of the operand. -/
theorem readsBack_takeRM {ρ : Type} {ofCode : BitVec 3 → ρ} {code : ρ → BitVec 3} (hcode : ∀ c, code (ofCode c) = c)
    {k : BitVec 3 → RM ρ → List Byte → Decoded}
    (h : ∀ reg rm rest, rm.wf = true → bs = rm.modrm code reg :: (rm.dispBytes ++ rest) →
      ReadsBack bytes (k reg rm rest)) :
    ReadsBack bytes (takeRM ofCode bs k) := by
  refine readsBack_takeByte fun m bs' hm => ?_
  subst hm
  have fields := packModrm_fields m
  have modes : ∀ c : BitVec 2, c = 0 ∨ c = 1 ∨ c = 2 ∨ c = 3 := by decide
  have same {l l' : List Byte} (hl : l = l') :
      m :: l = packModrm (modField m) (regField m) (memField m) :: l' := by rw [fields, hl]
  rcases modes (modField m) with hmod | hmod | hmod | hmod <;> rw [hmod] at same ⊢
  · refine readsBack_ite (fun hmem => ?_) fun hmem => ?_
    · rw [hmem] at same
      exact readsBack_takeWord fun a rest ha => h _ (.direct a) _ rfl (same ha)
    · refine h _ (.mem (Base.ofCode (memField m))) _ ?_ ?_
      · have : Base.ofCode (memField m) ≠ .bp := fun hb => hmem (by rw [← Base.code_ofCode (memField m), hb]; rfl)
        simpa [RM.wf] using this
      · rw [RM.modrm, Base.code_ofCode]; exact same rfl
  · exact readsBack_takeByte fun d rest hd => h _ (.mem8 _ d) _ rfl (by rw [RM.modrm, Base.code_ofCode]; exact same hd)
  · exact readsBack_takeWord fun d rest hd => h _ (.mem16 _ d) _ rfl (by rw [RM.modrm, Base.code_ofCode]; exact same hd)
  · exact h _ (.reg _) _ rfl (by rw [RM.modrm, hcode]; exact same rfl)

theorem readsBack_takeRM8 {k : BitVec 3 → RM8 → List Byte → Decoded}
    (h : ∀ reg rm rest, rm.wf = true → ReadsBack (encRM8 op reg rm rest) (k reg rm rest)) :
    ReadsBack (op :: bs) (takeRM8 bs k) :=
  readsBack_takeRM Reg8.code_ofCode fun reg rm rest hrm hbs => hbs ▸ h reg rm rest hrm

theorem readsBack_takeRM16 {k : BitVec 3 → RM16 → List Byte → Decoded}
    (h : ∀ reg rm rest, rm.wf = true → ReadsBack (encRM16 op reg rm rest) (k reg rm rest)) :
    ReadsBack (op :: bs) (takeRM16 bs k) :=
  readsBack_takeRM Reg16.code_ofCode fun reg rm rest hrm hbs => hbs ▸ h reg rm rest hrm

/-! The formats: `c` is the constructor of a row whose opcode is `o`. -/

theorem readsBack_plain {c : Instr} (hwf : WellFormed c = true) (henc : encode c = [o]) (ho : op = o) :
    ReadsBack (op :: bs) (plain c bs) :=
  readsBack_ok hwf (by rw [henc, ho]; rfl)

theorem readsBack_imm8 {c : Byte → Instr} (hwf : ∀ v, WellFormed (c v) = true) (henc : ∀ v, encode (c v) = [o, v])
    (ho : op = o) : ReadsBack (op :: bs) (imm8 c bs) :=
  readsBack_takeByte fun v rest hv => readsBack_ok (hwf v) (by rw [henc, ho, hv]; rfl)

theorem readsBack_imm16 {c : Word → Instr} (hwf : ∀ v, WellFormed (c v) = true)
    (henc : ∀ v, encode (c v) = o :: wordBytes v) (ho : op = o) : ReadsBack (op :: bs) (imm16 c bs) :=
  readsBack_takeWord fun v rest hv => readsBack_ok (hwf v) (by rw [henc, ho, hv]; rfl)

theorem readsBack_far {c : Word → Word → Instr} (hwf : ∀ v w, WellFormed (c v w) = true)
    (henc : ∀ v w, encode (c v w) = o :: (wordBytes v ++ wordBytes w)) (ho : op = o) :
    ReadsBack (op :: bs) (far c bs) :=
  readsBack_takeWord fun v _ hv => readsBack_takeWord fun w rest hw =>
    readsBack_ok (hwf v w) (by rw [henc, ho, hv, hw]; rfl)

@[simp] theorem encRM8_append (reg : BitVec 3) (rm : RM8) (tail rest : List Byte) :
    encRM8 op reg rm tail ++ rest = encRM8 op reg rm (tail ++ rest) := by
  simp [encRM8]

@[simp] theorem encRM16_append (reg : BitVec 3) (rm : RM16) (tail rest : List Byte) :
    encRM16 op reg rm tail ++ rest = encRM16 op reg rm (tail ++ rest) := by
  simp [encRM16]

theorem readsBack_rmReg8 {c : RM8 → Reg8 → Instr} (hwf : ∀ rm reg, WellFormed (c rm reg) = rm.wf)
    (henc : ∀ rm reg, encode (c rm reg) = encRM8 o reg.code rm []) (ho : op = o) :
    ReadsBack (op :: bs) (rmReg8 c bs) :=
  readsBack_takeRM8 fun reg rm rest hrm => readsBack_ok ((hwf _ _).trans hrm) (by simp [henc, ho])

theorem readsBack_regRm8 {c : Reg8 → RM8 → Instr} (hwf : ∀ reg rm, WellFormed (c reg rm) = rm.wf)
    (henc : ∀ reg rm, encode (c reg rm) = encRM8 o reg.code rm []) (ho : op = o) :
    ReadsBack (op :: bs) (regRm8 c bs) :=
  readsBack_takeRM8 fun reg rm rest hrm => readsBack_ok ((hwf _ _).trans hrm) (by simp [henc, ho])

theorem readsBack_rmReg16 {c : RM16 → Reg16 → Instr} (hwf : ∀ rm reg, WellFormed (c rm reg) = rm.wf)
    (henc : ∀ rm reg, encode (c rm reg) = encRM16 o reg.code rm []) (ho : op = o) :
    ReadsBack (op :: bs) (rmReg16 c bs) :=
  readsBack_takeRM16 fun reg rm rest hrm => readsBack_ok ((hwf _ _).trans hrm) (by simp [henc, ho])

theorem readsBack_regRm16 {c : Reg16 → RM16 → Instr} (hwf : ∀ reg rm, WellFormed (c reg rm) = rm.wf)
    (henc : ∀ reg rm, encode (c reg rm) = encRM16 o reg.code rm []) (ho : op = o) :
    ReadsBack (op :: bs) (regRm16 c bs) :=
  readsBack_takeRM16 fun reg rm rest hrm => readsBack_ok ((hwf _ _).trans hrm) (by simp [henc, ho])

/-! The rows of a group, with the operand read. -/

theorem readsBack_rm8 {i : Instr} {reg : BitVec 3} {rm : RM8} {rest : List Byte} (hwf : WellFormed i = true)
    (henc : encode i = encRM8 op reg rm []) : ReadsBack (encRM8 op reg rm rest) (.ok (i, rest)) :=
  readsBack_ok hwf (by simp [henc])

theorem readsBack_rm16 {i : Instr} {reg : BitVec 3} {rm : RM16} {rest : List Byte} (hwf : WellFormed i = true)
    (henc : encode i = encRM16 op reg rm []) : ReadsBack (encRM16 op reg rm rest) (.ok (i, rest)) :=
  readsBack_ok hwf (by simp [henc])

theorem readsBack_rm8Imm8 {c : RM8 → Byte → Instr} {reg : BitVec 3} {rm : RM8} {rest : List Byte}
    (hwf : ∀ v, WellFormed (c rm v) = true) (henc : ∀ v, encode (c rm v) = encRM8 op reg rm [v]) :
    ReadsBack (encRM8 op reg rm rest) (rmImm8 c rm rest) :=
  readsBack_takeByte fun v _ hv => readsBack_ok (hwf v) (by simp [henc, hv])

theorem readsBack_rm16Imm8 {c : RM16 → Byte → Instr} {reg : BitVec 3} {rm : RM16} {rest : List Byte}
    (hwf : ∀ v, WellFormed (c rm v) = true) (henc : ∀ v, encode (c rm v) = encRM16 op reg rm [v]) :
    ReadsBack (encRM16 op reg rm rest) (rmImm8 c rm rest) :=
  readsBack_takeByte fun v _ hv => readsBack_ok (hwf v) (by simp [henc, hv])

theorem readsBack_rm16Imm16 {c : RM16 → Word → Instr} {reg : BitVec 3} {rm : RM16} {rest : List Byte}
    (hwf : ∀ v, WellFormed (c rm v) = true) (henc : ∀ v, encode (c rm v) = encRM16 op reg rm (wordBytes v)) :
    ReadsBack (encRM16 op reg rm rest) (rmImm16 c rm rest) :=
  readsBack_takeWord fun v _ hv => readsBack_ok (hwf v) (by simp [henc, hv])

theorem readsBack_decodeGroup80 : ReadsBack (0x80 :: bs) (decodeGroup80 bs) :=
  readsBack_takeRM8 fun reg rm _ hrm => by
    revert reg
    refine forall_code ⟨?_, ?_, readsBack_rm8 hrm rfl, readsBack_rm8 hrm rfl, ?_, ?_, ?_, ?_⟩ <;>
      exact readsBack_rm8Imm8 (fun _ => hrm) fun _ => rfl

theorem readsBack_decodeGroup81 : ReadsBack (0x81 :: bs) (decodeGroup81 bs) :=
  readsBack_takeRM16 fun reg rm _ hrm => by
    revert reg
    refine forall_code ⟨?_, ?_, readsBack_rm16 hrm rfl, readsBack_rm16 hrm rfl, ?_, ?_, ?_, ?_⟩ <;>
      exact readsBack_rm16Imm16 (fun _ => hrm) fun _ => rfl

theorem readsBack_decodeGroup83 : ReadsBack (0x83 :: bs) (decodeGroup83 bs) :=
  readsBack_takeRM16 fun reg rm _ hrm => by
    revert reg
    refine forall_code ⟨?_, ?_, readsBack_rm16 hrm rfl, readsBack_rm16 hrm rfl, ?_, ?_, ?_, ?_⟩ <;>
      exact readsBack_rm16Imm8 (fun _ => hrm) fun _ => rfl

theorem readsBack_decodeGroup8C : ReadsBack (0x8C :: bs) (decodeGroup8C bs) :=
  readsBack_takeRM16 fun reg rm _ hrm => by
    revert reg
    refine forall_code ⟨?_, ?_, ?_, ?_, readsBack_rm16 (Bool.and_eq_true_iff.2 ⟨hrm, rfl⟩) rfl,
      readsBack_rm16 (Bool.and_eq_true_iff.2 ⟨hrm, rfl⟩) rfl, readsBack_rm16 (Bool.and_eq_true_iff.2 ⟨hrm, rfl⟩) rfl,
      readsBack_rm16 (Bool.and_eq_true_iff.2 ⟨hrm, rfl⟩) rfl⟩ <;>
      exact readsBack_rm16 hrm rfl

theorem readsBack_decodeGroup8E : ReadsBack (0x8E :: bs) (decodeGroup8E bs) :=
  readsBack_takeRM16 fun reg rm _ hrm => by
    revert reg
    refine forall_code ⟨readsBack_rm16 hrm rfl, readsBack_rm16 hrm rfl,
      readsBack_rm16 (Bool.and_eq_true_iff.2 ⟨rfl, hrm⟩) rfl, readsBack_rm16 (Bool.and_eq_true_iff.2 ⟨rfl, hrm⟩) rfl,
      ?_, ?_, ?_, ?_⟩ <;>
      exact readsBack_rm16 (Bool.and_eq_true_iff.2 ⟨hrm, rfl⟩) rfl

theorem readsBack_decodeGroupC0 : ReadsBack (0xC0 :: bs) (decodeGroupC0 bs) :=
  readsBack_takeRM8 fun reg rm _ hrm => by
    revert reg
    refine forall_code ⟨?_, ?_, ?_, ?_, ?_, ?_, readsBack_rm8 hrm rfl, ?_⟩ <;>
      exact readsBack_rm8Imm8 (fun _ => hrm) fun _ => rfl

theorem readsBack_decodeGroupC1 : ReadsBack (0xC1 :: bs) (decodeGroupC1 bs) :=
  readsBack_takeRM16 fun reg rm _ hrm => by
    revert reg
    refine forall_code ⟨?_, ?_, ?_, ?_, ?_, ?_, readsBack_rm16 hrm rfl, ?_⟩ <;>
      exact readsBack_rm16Imm8 (fun _ => hrm) fun _ => rfl

theorem readsBack_decodeGroupC6 : ReadsBack (0xC6 :: bs) (decodeGroupC6 bs) :=
  readsBack_takeRM8 fun reg rm _ hrm => by
    revert reg
    refine forall_code ⟨readsBack_rm8Imm8 (fun _ => hrm) fun _ => rfl, readsBack_rm8 hrm rfl, ?_, ?_, ?_, ?_, ?_,
      ?_⟩ <;>
      exact readsBack_rm8 (Bool.and_eq_true_iff.2 ⟨hrm, rfl⟩) rfl

theorem readsBack_decodeGroupC7 : ReadsBack (0xC7 :: bs) (decodeGroupC7 bs) :=
  readsBack_takeRM16 fun reg rm _ hrm => by
    revert reg
    refine forall_code ⟨readsBack_rm16Imm16 (fun _ => hrm) fun _ => rfl, readsBack_rm16 hrm rfl, ?_, ?_, ?_, ?_, ?_,
      ?_⟩ <;>
      exact readsBack_rm16 (Bool.and_eq_true_iff.2 ⟨hrm, rfl⟩) rfl

theorem readsBack_decodeGroupD0 : ReadsBack (0xD0 :: bs) (decodeGroupD0 bs) :=
  readsBack_takeRM8 fun reg rm _ hrm => by
    revert reg
    refine forall_code ⟨?_, ?_, ?_, ?_, ?_, ?_, ?_, ?_⟩ <;>
      exact readsBack_rm8 hrm rfl

theorem readsBack_decodeGroupD1 : ReadsBack (0xD1 :: bs) (decodeGroupD1 bs) :=
  readsBack_takeRM16 fun reg rm _ hrm => by
    revert reg
    refine forall_code ⟨?_, ?_, ?_, ?_, ?_, ?_, ?_, ?_⟩ <;>
      exact readsBack_rm16 hrm rfl

theorem readsBack_decodeGroupD2 : ReadsBack (0xD2 :: bs) (decodeGroupD2 bs) :=
  readsBack_takeRM8 fun reg rm _ hrm => by
    revert reg
    refine forall_code ⟨?_, ?_, ?_, ?_, ?_, ?_, ?_, ?_⟩ <;>
      exact readsBack_rm8 hrm rfl

theorem readsBack_decodeGroupD3 : ReadsBack (0xD3 :: bs) (decodeGroupD3 bs) :=
  readsBack_takeRM16 fun reg rm _ hrm => by
    revert reg
    refine forall_code ⟨?_, ?_, ?_, ?_, ?_, ?_, ?_, ?_⟩ <;>
      exact readsBack_rm16 hrm rfl

theorem readsBack_decodeGroupF6 : ReadsBack (0xF6 :: bs) (decodeGroupF6 bs) :=
  readsBack_takeRM8 fun reg rm _ hrm => by
    revert reg
    refine forall_code ⟨?_, ?_, ?_, ?_, ?_, ?_, readsBack_rm8 hrm rfl, readsBack_rm8 hrm rfl⟩ <;>
      exact readsBack_rm8 (Bool.and_eq_true_iff.2 ⟨hrm, rfl⟩) rfl

theorem readsBack_decodeGroupF7 : ReadsBack (0xF7 :: bs) (decodeGroupF7 bs) :=
  readsBack_takeRM16 fun reg rm _ hrm => by
    revert reg
    refine forall_code ⟨?_, ?_, ?_, ?_, ?_, ?_, readsBack_rm16 hrm rfl, readsBack_rm16 hrm rfl⟩ <;>
      exact readsBack_rm16 (Bool.and_eq_true_iff.2 ⟨hrm, rfl⟩) rfl

/-- The nine ranges and four single sub-opcodes after 0F cover every byte. -/
theorem readsBack_decodeEsc : ReadsBack (0x0F :: bs) (decodeEsc bs) := by
  refine readsBack_takeByte fun sub rest hsub => ?_
  subst hsub
  refine readsBack_ite (fun h => readsBack_ok h rfl) fun h1 => ?_
  refine readsBack_ite (fun h => readsBack_ok h rfl) fun h2 => ?_
  refine readsBack_ite (fun h => readsBack_ok h rfl) fun h3 => ?_
  refine readsBack_ite (fun h => ?_) fun h4 => ?_
  · exact readsBack_takeByte fun n _ hn => readsBack_ok rfl (by rw [h, hn]; rfl)
  refine readsBack_ite (fun h => readsBack_ok rfl (by rw [h]; rfl)) fun h5 => ?_
  refine readsBack_ite (fun h => readsBack_ok h rfl) fun h6 => ?_
  refine readsBack_ite (fun h => readsBack_ok h rfl) fun h7 => ?_
  refine readsBack_ite (fun h => readsBack_ok h rfl) fun h8 => ?_
  refine readsBack_ite (fun h => ?_) fun h9 => ?_
  · exact readsBack_takeByte fun n _ hn => readsBack_ok rfl (by rw [h, hn]; rfl)
  refine readsBack_ite (fun h => readsBack_ok rfl (by rw [h]; rfl)) fun h10 => ?_
  refine readsBack_ite (fun h => readsBack_ok h rfl) fun h11 => ?_
  refine readsBack_ite (fun h => readsBack_ok h rfl) fun h12 => ?_
  refine readsBack_ok ?_ rfl
  simp only [WellFormed, fits_iff_toNat, eq_iff_toNat, toNat_and_mask, BitVec.ofNat_eq_ofNat, BitVec.toNat_ofNat,
    Nat.reducePow, Nat.reduceMod] at h1 h2 h3 h4 h5 h6 h7 h8 h9 h10 h11 h12 ⊢
  omega

/-- The ten ranges and fourteen single followers after F3 cover every byte. -/
theorem readsBack_decodeRep : ReadsBack (0xF3 :: bs) (decodeRep bs) := by
  refine readsBack_takeByte fun sub rest hsub => ?_
  subst hsub
  refine readsBack_ite (fun h => readsBack_ok h rfl) fun h1 => ?_
  refine readsBack_ite (fun h => readsBack_ok h rfl) fun h2 => ?_
  refine readsBack_ite (fun h => readsBack_ok h rfl) fun h3 => ?_
  refine readsBack_ite (fun h => readsBack_ok h rfl) fun h4 => ?_
  refine readsBack_ite (fun h => readsBack_ok rfl (by rw [h]; rfl)) fun h5 => ?_
  refine readsBack_ite (fun h => readsBack_ok rfl (by rw [h]; rfl)) fun h6 => ?_
  refine readsBack_ite (fun h => readsBack_ok rfl (by rw [h]; rfl)) fun h7 => ?_
  refine readsBack_ite (fun h => readsBack_ok rfl (by rw [h]; rfl)) fun h8 => ?_
  refine readsBack_ite (fun h => readsBack_ok h rfl) fun h9 => ?_
  refine readsBack_ite (fun h => readsBack_ok h rfl) fun h10 => ?_
  refine readsBack_ite (fun h => readsBack_ok h rfl) fun h11 => ?_
  refine readsBack_ite (fun h => readsBack_ok rfl (by rw [h]; rfl)) fun h12 => ?_
  refine readsBack_ite (fun h => readsBack_ok rfl (by rw [h]; rfl)) fun h13 => ?_
  refine readsBack_ite (fun h => readsBack_ok rfl (by rw [h]; rfl)) fun h14 => ?_
  refine readsBack_ite (fun h => readsBack_ok rfl (by rw [h]; rfl)) fun h15 => ?_
  refine readsBack_ite (fun h => readsBack_ok h rfl) fun h16 => ?_
  refine readsBack_ite (fun h => readsBack_ok rfl (by rw [h]; rfl)) fun h17 => ?_
  refine readsBack_ite (fun h => readsBack_ok rfl (by rw [h]; rfl)) fun h18 => ?_
  refine readsBack_ite (fun h => readsBack_ok rfl (by rw [h]; rfl)) fun h19 => ?_
  refine readsBack_ite (fun h => readsBack_ok rfl (by rw [h]; rfl)) fun h20 => ?_
  refine readsBack_ite (fun h => readsBack_ok rfl (by rw [h]; rfl)) fun h21 => ?_
  refine readsBack_ite (fun h => readsBack_ok rfl (by rw [h]; rfl)) fun h22 => ?_
  refine readsBack_ite (fun h => readsBack_ok h rfl) fun h23 => ?_
  refine readsBack_ok ?_ rfl
  simp only [WellFormed, fits_iff_toNat, eq_iff_toNat, toNat_and_mask, BitVec.ofNat_eq_ofNat, BitVec.toNat_ofNat,
    Nat.reducePow, Nat.reduceMod]
    at h1 h2 h3 h4 h5 h6 h7 h8 h9 h10 h11 h12 h13 h14 h15 h16 h17 h18 h19 h20 h21 h22 h23 ⊢
  omega

theorem readsBack_decodeRow0 (h : op.toNat / 16 = 0) : ReadsBack (op :: bs) (decodeRow0 op bs) := by
  unfold decodeRow0
  split
  case h_16 =>
    simp only [imp_false] at *
    obtain rfl : op = 0x0F := by bv_omega
    exact readsBack_decodeEsc
  case h_1 | h_9 => exact readsBack_rmReg8 (fun _ _ => rfl) (fun _ _ => rfl) (by bv_omega)
  case h_2 | h_10 => exact readsBack_rmReg16 (fun _ _ => rfl) (fun _ _ => rfl) (by bv_omega)
  case h_3 | h_11 => exact readsBack_regRm8 (fun _ _ => rfl) (fun _ _ => rfl) (by bv_omega)
  case h_4 | h_12 => exact readsBack_regRm16 (fun _ _ => rfl) (fun _ _ => rfl) (by bv_omega)
  case h_5 | h_13 => exact readsBack_imm8 (fun _ => rfl) (fun _ => rfl) (by bv_omega)
  case h_6 | h_14 => exact readsBack_imm16 (fun _ => rfl) (fun _ => rfl) (by bv_omega)
  all_goals exact readsBack_plain rfl rfl (by bv_omega)

theorem readsBack_decodeRow1 (h : op.toNat / 16 = 1) : ReadsBack (op :: bs) (decodeRow1 op bs) := by
  unfold decodeRow1
  split
  case h_16 =>
    simp only [imp_false] at *
    exact readsBack_plain rfl rfl (by bv_omega)
  all_goals exact readsBack_plain rfl rfl (by bv_omega)

theorem readsBack_decodeRow2 (h : op.toNat / 16 = 2) : ReadsBack (op :: bs) (decodeRow2 op bs) := by
  unfold decodeRow2
  split
  case h_16 =>
    simp only [imp_false] at *
    exact readsBack_plain rfl rfl (by bv_omega)
  case h_1 | h_9 => exact readsBack_rmReg8 (fun _ _ => rfl) (fun _ _ => rfl) (by bv_omega)
  case h_2 | h_10 => exact readsBack_rmReg16 (fun _ _ => rfl) (fun _ _ => rfl) (by bv_omega)
  case h_3 | h_11 => exact readsBack_regRm8 (fun _ _ => rfl) (fun _ _ => rfl) (by bv_omega)
  case h_4 | h_12 => exact readsBack_regRm16 (fun _ _ => rfl) (fun _ _ => rfl) (by bv_omega)
  case h_5 | h_13 => exact readsBack_imm8 (fun _ => rfl) (fun _ => rfl) (by bv_omega)
  case h_6 | h_14 => exact readsBack_imm16 (fun _ => rfl) (fun _ => rfl) (by bv_omega)
  all_goals exact readsBack_plain rfl rfl (by bv_omega)

theorem readsBack_decodeRow3 (h : op.toNat / 16 = 3) : ReadsBack (op :: bs) (decodeRow3 op bs) := by
  unfold decodeRow3
  split
  case h_16 =>
    simp only [imp_false] at *
    exact readsBack_plain rfl rfl (by bv_omega)
  case h_1 | h_9 => exact readsBack_rmReg8 (fun _ _ => rfl) (fun _ _ => rfl) (by bv_omega)
  case h_2 | h_10 => exact readsBack_rmReg16 (fun _ _ => rfl) (fun _ _ => rfl) (by bv_omega)
  case h_3 | h_11 => exact readsBack_regRm8 (fun _ _ => rfl) (fun _ _ => rfl) (by bv_omega)
  case h_4 | h_12 => exact readsBack_regRm16 (fun _ _ => rfl) (fun _ _ => rfl) (by bv_omega)
  case h_5 | h_13 => exact readsBack_imm8 (fun _ => rfl) (fun _ => rfl) (by bv_omega)
  case h_6 | h_14 => exact readsBack_imm16 (fun _ => rfl) (fun _ => rfl) (by bv_omega)
  all_goals exact readsBack_plain rfl rfl (by bv_omega)

/-- The opcodes from `base` to `base + 7` carry a register code in their low three bits (R75). -/
theorem opWithReg_eq (base : Byte) (h : base.toNat = op.toNat / 8 * 8) : opWithReg base (memField op) = op := by
  have rounded : base = op &&& 0xF8 := BitVec.eq_of_toNat_eq (h.trans (toNat_and_mask op).2.2.2.2.1.symm)
  subst rounded
  clear h
  revert op; decide

theorem readsBack_opReg16 {c : Reg16 → Instr} (base : Byte) (hwf : ∀ r, WellFormed (c r) = true)
    (henc : ∀ r, encode (c r) = [opWithReg base r.code]) (hbase : base.toNat = op.toNat / 8 * 8) :
    ReadsBack (op :: bs) (opReg16 c op bs) :=
  readsBack_ok (hwf _) (by rw [henc, Reg16.code_ofCode, opWithReg_eq base hbase]; rfl)

theorem readsBack_decodeRow4 (h : op.toNat / 16 = 4) : ReadsBack (op :: bs) (decodeRow4 op bs) := by
  refine readsBack_ite (fun lo => ?_) fun hi => ?_
  · exact readsBack_opReg16 0x40 (fun _ => rfl) (fun _ => rfl) (by bv_omega)
  · exact readsBack_opReg16 0x48 (fun _ => rfl) (fun _ => rfl) (by bv_omega)

theorem readsBack_decodeRow5 (h : op.toNat / 16 = 5) : ReadsBack (op :: bs) (decodeRow5 op bs) := by
  refine readsBack_ite (fun lo => ?_) fun hi => ?_
  · exact readsBack_opReg16 0x50 (fun _ => rfl) (fun _ => rfl) (by bv_omega)
  · exact readsBack_opReg16 0x58 (fun _ => rfl) (fun _ => rfl) (by bv_omega)

theorem readsBack_decodeRow6 (h : op.toNat / 16 = 6) : ReadsBack (op :: bs) (decodeRow6 op bs) := by
  unfold decodeRow6
  split
  case h_16 =>
    simp only [imp_false] at *
    exact readsBack_plain rfl rfl (by bv_omega)
  all_goals exact readsBack_plain rfl rfl (by bv_omega)

theorem readsBack_decodeRow7 (h : op.toNat / 16 = 7) : ReadsBack (op :: bs) (decodeRow7 op bs) := by
  unfold decodeRow7
  split
  case h_16 =>
    simp only [imp_false] at *
    exact readsBack_imm8 (fun _ => rfl) (fun _ => rfl) (by bv_omega)
  all_goals exact readsBack_imm8 (fun _ => rfl) (fun _ => rfl) (by bv_omega)

theorem readsBack_decodeRow8 (h : op.toNat / 16 = 8) : ReadsBack (op :: bs) (decodeRow8 op bs) := by
  unfold decodeRow8
  split
  case h_16 =>
    simp only [imp_false] at *
    exact readsBack_plain rfl rfl (by bv_omega)
  case h_1 =>
    obtain rfl : op = 0x80 := by bv_omega
    exact readsBack_decodeGroup80
  case h_2 =>
    obtain rfl : op = 0x81 := by bv_omega
    exact readsBack_decodeGroup81
  case h_4 =>
    obtain rfl : op = 0x83 := by bv_omega
    exact readsBack_decodeGroup83
  case h_9 => exact readsBack_rmReg8 (fun _ _ => rfl) (fun _ _ => rfl) (by bv_omega)
  case h_10 => exact readsBack_rmReg16 (fun _ _ => rfl) (fun _ _ => rfl) (by bv_omega)
  case h_11 => exact readsBack_regRm8 (fun _ _ => rfl) (fun _ _ => rfl) (by bv_omega)
  case h_12 => exact readsBack_regRm16 (fun _ _ => rfl) (fun _ _ => rfl) (by bv_omega)
  case h_13 =>
    obtain rfl : op = 0x8C := by bv_omega
    exact readsBack_decodeGroup8C
  case h_15 =>
    obtain rfl : op = 0x8E := by bv_omega
    exact readsBack_decodeGroup8E
  all_goals exact readsBack_plain rfl rfl (by bv_omega)

theorem readsBack_decodeRow9 (h : op.toNat / 16 = 9) : ReadsBack (op :: bs) (decodeRow9 op bs) := by
  unfold decodeRow9
  split
  case h_16 =>
    simp only [imp_false] at *
    exact readsBack_plain rfl rfl (by bv_omega)
  case h_11 => exact readsBack_far (fun _ _ => rfl) (fun _ _ => rfl) (by bv_omega)
  all_goals exact readsBack_plain rfl rfl (by bv_omega)

theorem readsBack_decodeRowA (h : op.toNat / 16 = 10) : ReadsBack (op :: bs) (decodeRowA op bs) := by
  unfold decodeRowA
  split
  case h_16 =>
    simp only [imp_false] at *
    exact readsBack_plain rfl rfl (by bv_omega)
  case h_1 | h_2 | h_3 | h_4 => exact readsBack_imm16 (fun _ => rfl) (fun _ => rfl) (by bv_omega)
  all_goals exact readsBack_plain rfl rfl (by bv_omega)

theorem readsBack_decodeRowB (h : op.toNat / 16 = 11) : ReadsBack (op :: bs) (decodeRowB op bs) := by
  refine readsBack_ite (fun lo => ?_) fun hi => ?_
  · exact readsBack_imm8 (fun _ => rfl) (fun _ => by rw [encode, Reg8.code_ofCode])
      (opWithReg_eq (op := op) 0xB0 (by bv_omega)).symm
  · exact readsBack_imm16 (fun _ => rfl) (fun _ => by rw [encode, Reg16.code_ofCode])
      (opWithReg_eq (op := op) 0xB8 (by bv_omega)).symm

theorem readsBack_decodeRowC (h : op.toNat / 16 = 12) : ReadsBack (op :: bs) (decodeRowC op bs) := by
  unfold decodeRowC
  split
  case h_16 =>
    simp only [imp_false] at *
    exact readsBack_plain rfl rfl (by bv_omega)
  case h_1 =>
    obtain rfl : op = 0xC0 := by bv_omega
    exact readsBack_decodeGroupC0
  case h_2 =>
    obtain rfl : op = 0xC1 := by bv_omega
    exact readsBack_decodeGroupC1
  case h_7 =>
    obtain rfl : op = 0xC6 := by bv_omega
    exact readsBack_decodeGroupC6
  case h_8 =>
    obtain rfl : op = 0xC7 := by bv_omega
    exact readsBack_decodeGroupC7
  all_goals exact readsBack_plain rfl rfl (by bv_omega)

theorem readsBack_decodeRowD (h : op.toNat / 16 = 13) : ReadsBack (op :: bs) (decodeRowD op bs) := by
  unfold decodeRowD
  split
  case h_16 =>
    simp only [imp_false] at *
    exact readsBack_plain rfl rfl (by bv_omega)
  case h_1 =>
    obtain rfl : op = 0xD0 := by bv_omega
    exact readsBack_decodeGroupD0
  case h_2 =>
    obtain rfl : op = 0xD1 := by bv_omega
    exact readsBack_decodeGroupD1
  case h_3 =>
    obtain rfl : op = 0xD2 := by bv_omega
    exact readsBack_decodeGroupD2
  case h_4 =>
    obtain rfl : op = 0xD3 := by bv_omega
    exact readsBack_decodeGroupD3
  all_goals exact readsBack_plain rfl rfl (by bv_omega)

theorem readsBack_decodeRowE (h : op.toNat / 16 = 14) : ReadsBack (op :: bs) (decodeRowE op bs) := by
  unfold decodeRowE
  split
  case h_16 =>
    simp only [imp_false] at *
    exact readsBack_plain rfl rfl (by bv_omega)
  case h_5 | h_6 | h_7 | h_8 | h_12 => exact readsBack_imm8 (fun _ => rfl) (fun _ => rfl) (by bv_omega)
  case h_9 | h_10 => exact readsBack_imm16 (fun _ => rfl) (fun _ => rfl) (by bv_omega)
  case h_11 => exact readsBack_far (fun _ _ => rfl) (fun _ _ => rfl) (by bv_omega)
  all_goals exact readsBack_plain rfl rfl (by bv_omega)

theorem readsBack_decodeRowF (h : op.toNat / 16 = 15) : ReadsBack (op :: bs) (decodeRowF op bs) := by
  unfold decodeRowF
  split
  case h_16 =>
    simp only [imp_false] at *
    exact readsBack_plain rfl rfl (by bv_omega)
  case h_4 =>
    obtain rfl : op = 0xF3 := by bv_omega
    exact readsBack_decodeRep
  case h_7 =>
    obtain rfl : op = 0xF6 := by bv_omega
    exact readsBack_decodeGroupF6
  case h_8 =>
    obtain rfl : op = 0xF7 := by bv_omega
    exact readsBack_decodeGroupF7
  all_goals exact readsBack_plain rfl rfl (by bv_omega)

theorem readsBack_decodeOp : ReadsBack (op :: bs) (decodeOp op bs) := by
  unfold decodeOp
  split
  case h_16 =>
    simp only [imp_false] at *
    exact readsBack_decodeRowF (by have := op.isLt; omega)
  case h_1 h => exact readsBack_decodeRow0 h
  case h_2 h => exact readsBack_decodeRow1 h
  case h_3 h => exact readsBack_decodeRow2 h
  case h_4 h => exact readsBack_decodeRow3 h
  case h_5 h => exact readsBack_decodeRow4 h
  case h_6 h => exact readsBack_decodeRow5 h
  case h_7 h => exact readsBack_decodeRow6 h
  case h_8 h => exact readsBack_decodeRow7 h
  case h_9 h => exact readsBack_decodeRow8 h
  case h_10 h => exact readsBack_decodeRow9 h
  case h_11 h => exact readsBack_decodeRowA h
  case h_12 h => exact readsBack_decodeRowB h
  case h_13 h => exact readsBack_decodeRowC h
  case h_14 h => exact readsBack_decodeRowD h
  case h_15 h => exact readsBack_decodeRowE h

/-- Settles O3: what each row reads is read back from its encoding. -/
theorem decodedBytesEncode : Obligations.DecodedBytesEncode := by
  intro bytes rest i h
  exact readsBack_takeByte (bs := bytes) (fun op bs hbs => hbs ▸ readsBack_decodeOp) i rest h

end Sys2Proof

/-! PROOFS. What a step fetches and runs (40_step_and_prefixes.md R100; 20_memory.md R46), and the encodings that only
raise (30_encoding.md R80, R81). -/

namespace Sys2Proof

/-- Settles O1: each word by evaluation. -/
theorem knownWordsDecode : Obligations.KnownWordsDecode := by
  refine ⟨rfl, rfl, rfl, rfl, rfl, rfl, rfl, rfl, rfl⟩

/-- Settles O4: six bytes are enough for the longest instruction. -/
theorem decoderIsTotal : Obligations.DecoderIsTotal := fun _ h => decodes_decode h

/-- An instruction is at most six bytes (R70): the first six bytes of a longer one would be an instruction of
their own. -/
theorem encode_length_le {i : Instr} (h : WellFormed i = true) : (encode i).length ≤ 6 := by
  rcases Nat.lt_or_ge 6 (encode i).length with long | short
  · obtain ⟨j, rest, decoded⟩ := decodes_decode (bs := (encode i).take 6) (by simp; omega)
    obtain ⟨hj, hbytes⟩ := decodedBytesEncode _ _ _ decoded
    have whole : encode j ++ (rest ++ (encode i).drop 6) = encode i ++ [] := by
      rw [← List.append_assoc, hbytes, List.take_append_drop, List.append_nil]
    have same := encodedInstructionsDecode j (rest ++ (encode i).drop 6) hj
    rw [whole, encodedInstructionsDecode i [] h] at same
    have none_left : (encode i).drop 6 = [] := by
      have := congrArg (fun r : Except DecodeError (Instr × List Byte) => r.toOption.map Prod.snd) same
      simp only [Except.toOption, Option.map_some, Option.some.injEq] at this
      exact (List.append_eq_nil_iff.1 this.symm).2
    simpa using none_left
  · exact short

end Sys2Proof

namespace Sys2Proof.Machine

theorem State.getElem_codeBytes (s : State) {k : Nat} (h : k < s.codeBytes.length) :
    s.codeBytes[k] = s.codeByte (BitVec.ofNat 16 k) := by
  have : k < 6 := h
  interval_cases k <;> rfl

/-- The step of a running core, once its bytes are decoded. -/
theorem step_eq_finishStep {s : State} {i : Instr} {rest : List Byte} (h : s.halted = none)
    (decoded : decode s.codeBytes = .ok (i, rest)) :
    step s = finishStep (s.codeByte 0) (cycles i (s.fetched (6 - rest.length)))
      (exec i (s.fetched (6 - rest.length))) := by
  simp only [step, h, runStep, decoded]

/-- Settles O10: the bytes at PS:PC are the encoding and what follows it, and decode to both. -/
theorem stepRunsTheEncodedInstruction : Obligations.StepRunsTheEncodedInstruction := by
  intro s i h hwf hbytes
  have hlen := encode_length_le hwf
  have code : s.codeBytes = encode i ++ s.codeBytes.drop (encode i).length := by
    have taken : s.codeBytes.take (encode i).length = encode i := by
      apply List.ext_getElem
      · simpa [State.codeBytes] using hlen
      · intro k hk hk'
        rw [List.getElem_take, s.getElem_codeBytes, hbytes k hk']
    conv_lhs => rw [← List.take_append_drop (encode i).length s.codeBytes, taken]
  have decoded := encodedInstructionsDecode i (s.codeBytes.drop (encode i).length) hwf
  rw [← code] at decoded
  have length : 6 - (s.codeBytes.drop (encode i).length).length = (encode i).length := by
    have : s.codeBytes.length = 6 := rfl
    rw [List.length_drop, this]
    omega
  rw [step_eq_finishStep h decoded, length]

theorem isSegmentPrefix_iff (op : Byte) : isSegmentPrefix op = true ↔ op ∈ [0x26#8, 0x2E#8, 0x36#8, 0x3E#8] := by
  simp [isSegmentPrefix, or_assoc]

theorem finishStep_of_halted {t : State} {f : Fault} (h : t.halted = some f) (op : Byte) (cost : Nat) :
    finishStep op cost (.next t) = .next t := by
  simp [finishStep, h]

theorem finishStep_of_running {t : State} (h : t.halted = none) (op : Byte) (cost : Nat) :
    finishStep op cost (.next t) = .next (t.endStep op cost) := by
  simp [finishStep, h]

/-- Settles O9: the two ends of a step. -/
theorem stepRunsTheDecodedInstruction : Obligations.StepRunsTheDecodedInstruction := by
  intro s t i rest h decoded executed
  refine ⟨rfl, rfl, fun f raised => ?_, fun running => ?_⟩
  · rw [step_eq_finishStep h decoded, executed, finishStep_of_halted raised]
  · rw [step_eq_finishStep h decoded, executed, finishStep_of_running running, State.endStep]
    simp only [isSegmentPrefix_iff]
    rfl

/-! ## The instructions that only raise (R80, R81, R301, R304) -/

/-- Settles O60: the meaning of each row is its raise. -/
theorem faultingInstructionsRaise : Obligations.FaultingInstructionsRaise := by
  intro s rm rm8 code sub
  and_intros
  all_goals exact ⟨_, rfl, rfl⟩

/-- The decoder's answer `d` is an instruction that raises `f` in every state. -/
def ReadsRaise (f : Fault) (d : Decoded) : Prop := ∃ i rest, d = .ok (i, rest) ∧ ∀ t, exec i t = t.raise f

theorem readsRaise_ite {p : Prop} [Decidable p] {f : Fault} {d e : Decoded} (hd : p → ReadsRaise f d)
    (he : ¬p → ReadsRaise f e) : ReadsRaise f (if p then d else e) := by
  split
  case isTrue hp => exact hd hp
  case isFalse hp => exact he hp

theorem ReadsRaise.step {s : State} {f : Fault} (h : s.halted = none) (hf : ReadsRaise f (decode s.codeBytes)) :
    ∃ t, step s = .next t ∧ t.halted = some f := by
  obtain ⟨i, rest, decoded, raises⟩ := hf
  rw [step_eq_finishStep h decoded, raises]
  exact ⟨_, finishStep_of_halted rfl _ _, rfl⟩

/-- The rows that raise on their first byte alone. -/
theorem readsRaise_unimplementedFirstByte (bs : List Byte) : ∀ n ∈ unimplementedFirstBytes,
    ReadsRaise (.unimplemented (BitVec.ofNat 8 n) none) (decodeOp (BitVec.ofNat 8 n) bs) := by
  simp only [unimplementedFirstBytes, List.forall_mem_append, List.forall_mem_cons, List.not_mem_nil, false_imp_iff,
    implies_true, and_true]
  and_intros
  all_goals exact ⟨_, bs, rfl, fun _ => rfl⟩

theorem readsRaise_decodeEsc {sub : Byte} (bs : List Byte) (hE0 : sub ≠ 0xE0) (hF0 : sub ≠ 0xF0) :
    ReadsRaise (.unimplemented 0x0F (some sub)) (decodeEsc (sub :: bs)) := by
  iterate 3 refine readsRaise_ite (fun _ => ⟨_, bs, rfl, fun _ => rfl⟩) fun _ => ?_
  refine readsRaise_ite (fun h => absurd h hE0) fun _ => ?_
  refine readsRaise_ite (fun h => ⟨_, bs, rfl, fun _ => by rw [h]; rfl⟩) fun _ => ?_
  iterate 3 refine readsRaise_ite (fun _ => ⟨_, bs, rfl, fun _ => rfl⟩) fun _ => ?_
  refine readsRaise_ite (fun h => absurd h hF0) fun _ => ?_
  refine readsRaise_ite (fun h => ⟨_, bs, rfl, fun _ => by rw [h]; rfl⟩) fun _ => ?_
  iterate 2 refine readsRaise_ite (fun _ => ⟨_, bs, rfl, fun _ => rfl⟩) fun _ => ?_
  exact ⟨_, bs, rfl, fun _ => rfl⟩

theorem readsRaise_decodeRep {sub : Byte} (bs : List Byte)
    (h : sub ∉ [0x6C#8, 0x6D#8, 0x6E#8, 0x6F#8, 0xA4#8, 0xA5#8, 0xAA#8, 0xAB#8, 0xAC#8, 0xAD#8]) :
    ReadsRaise (.unimplemented 0xF3 (some sub)) (decodeRep (sub :: bs)) := by
  simp only [List.mem_cons, List.not_mem_nil, or_false, not_or] at h
  obtain ⟨h6C, h6D, h6E, h6F, hA4, hA5, hAA, hAB, hAC, hAD⟩ := h
  iterate 4 refine readsRaise_ite (fun _ => ⟨_, bs, rfl, fun _ => rfl⟩) fun _ => ?_
  refine readsRaise_ite (fun h => absurd h h6C) fun _ => ?_
  refine readsRaise_ite (fun h => absurd h h6D) fun _ => ?_
  refine readsRaise_ite (fun h => absurd h h6E) fun _ => ?_
  refine readsRaise_ite (fun h => absurd h h6F) fun _ => ?_
  iterate 3 refine readsRaise_ite (fun _ => ⟨_, bs, rfl, fun _ => rfl⟩) fun _ => ?_
  refine readsRaise_ite (fun h => absurd h hA4) fun _ => ?_
  refine readsRaise_ite (fun h => absurd h hA5) fun _ => ?_
  iterate 2 refine readsRaise_ite (fun h => ⟨_, bs, rfl, fun _ => by rw [h]; rfl⟩) fun _ => ?_
  refine readsRaise_ite (fun _ => ⟨_, bs, rfl, fun _ => rfl⟩) fun _ => ?_
  refine readsRaise_ite (fun h => absurd h hAA) fun _ => ?_
  refine readsRaise_ite (fun h => absurd h hAB) fun _ => ?_
  refine readsRaise_ite (fun h => absurd h hAC) fun _ => ?_
  refine readsRaise_ite (fun h => absurd h hAD) fun _ => ?_
  iterate 2 refine readsRaise_ite (fun h => ⟨_, bs, rfl, fun _ => by rw [h]; rfl⟩) fun _ => ?_
  refine readsRaise_ite (fun _ => ⟨_, bs, rfl, fun _ => rfl⟩) fun _ => ?_
  exact ⟨_, bs, rfl, fun _ => rfl⟩

/-! The groups: the operand that was read has the ModRM byte that was fetched. -/

theorem exists_takeRM_cons {ρ : Type} {ofCode : BitVec 3 → ρ} {code : ρ → BitVec 3}
    (hcode : ∀ c, code (ofCode c) = c) (m x y : Byte) (bs : List Byte) : ∃ rm rest,
    RM.modrm code (regField m) rm = m ∧ ∀ k, takeRM ofCode (m :: x :: y :: bs) k = k (regField m) rm rest := by
  have fields := packModrm_fields m
  have modes : ∀ c : BitVec 2, c = 0 ∨ c = 1 ∨ c = 2 ∨ c = 3 := by decide
  rcases modes (modField m) with hmod | hmod | hmod | hmod <;> rw [hmod] at fields
  · by_cases hmem : memField m = 6
    · exact ⟨.direct _, _, hmem ▸ fields, fun k => by simp [takeRM, takeByte, takeWord, hmod, hmem]; rfl⟩
    · refine ⟨.mem (Base.ofCode (memField m)), x :: y :: bs, ?_, fun k => ?_⟩
      · rw [RM.modrm, Base.code_ofCode, fields]
      · simp only [takeRM, takeByte, hmod]
        exact if_neg hmem
  · refine ⟨.mem8 (Base.ofCode (memField m)) x, y :: bs, ?_, fun k => ?_⟩
    · rw [RM.modrm, Base.code_ofCode, fields]
    · simp [takeRM, takeByte, hmod]
  · refine ⟨.mem16 (Base.ofCode (memField m)) (wordOf y x), bs, ?_, fun k => ?_⟩
    · rw [RM.modrm, Base.code_ofCode, fields]
    · simp [takeRM, takeByte, takeWord, hmod]
  · refine ⟨.reg (ofCode (memField m)), x :: y :: bs, ?_, fun k => ?_⟩
    · rw [RM.modrm, hcode, fields]
    · simp [takeRM, takeByte, hmod]

section Group

variable {s : State} {f : Byte → Byte → Fault} {reg : BitVec 3}

/-- A core at the bytes of a byte-width group `g` whose register field raises `f` of both bytes. -/
theorem step_group8_raises (op : Byte) (g : List Byte → Decoded) {k : BitVec 3 → RM8 → List Byte → Decoded}
    (h : s.halted = none) (hop : (s.codeByte 0).toNat = op.toNat) (hreg : regField (s.codeByte 1) = reg)
    (hg : ∀ bs, decodeOp op bs = g bs) (hk : ∀ bs, g bs = takeRM8 bs k)
    (raises : ∀ rm rest, ReadsRaise (f op (RM.modrm8 reg rm)) (k reg rm rest)) :
    ∃ t, step s = .next t ∧ t.halted = some (f (s.codeByte 0) (s.codeByte 1)) := by
  obtain ⟨rm, rest, hm, read⟩ := exists_takeRM_cons Reg8.code_ofCode (s.codeByte 1) (s.codeByte 2) (s.codeByte 3)
    [s.codeByte 4, s.codeByte 5]
  rw [hreg] at hm read
  replace hop := BitVec.eq_of_toNat_eq hop
  have decoded : decode s.codeBytes = k reg rm rest := by
    change decodeOp (s.codeByte 0) _ = _
    rw [hop, hg, hk]
    exact read k
  apply ReadsRaise.step h
  rw [decoded, hop, ← hm]
  exact raises rm rest

/-- As `step_group8_raises`, word width. -/
theorem step_group16_raises (op : Byte) (g : List Byte → Decoded) {k : BitVec 3 → RM16 → List Byte → Decoded}
    (h : s.halted = none) (hop : (s.codeByte 0).toNat = op.toNat) (hreg : regField (s.codeByte 1) = reg)
    (hg : ∀ bs, decodeOp op bs = g bs) (hk : ∀ bs, g bs = takeRM16 bs k)
    (raises : ∀ rm rest, ReadsRaise (f op (RM.modrm16 reg rm)) (k reg rm rest)) :
    ∃ t, step s = .next t ∧ t.halted = some (f (s.codeByte 0) (s.codeByte 1)) := by
  obtain ⟨rm, rest, hm, read⟩ := exists_takeRM_cons Reg16.code_ofCode (s.codeByte 1) (s.codeByte 2) (s.codeByte 3)
    [s.codeByte 4, s.codeByte 5]
  rw [hreg] at hm read
  replace hop := BitVec.eq_of_toNat_eq hop
  have decoded : decode s.codeBytes = k reg rm rest := by
    change decodeOp (s.codeByte 0) _ = _
    rw [hop, hg, hk]
    exact read k
  apply ReadsRaise.step h
  rw [decoded, hop, ← hm]
  exact raises rm rest

end Group

/-! The register fields of the clauses, as codes. -/

theorem regField_of_two_or_three {m : Byte} (h : m.toNat / 8 % 8 = 2 ∨ m.toNat / 8 % 8 = 3) :
    regField m = 2 ∨ regField m = 3 := by
  revert m; decide
theorem regField_of_le_five {m : Byte} (h : m.toNat / 8 % 8 ≤ 5) : regField m = 0 ∨ regField m = 1 ∨ regField m = 2 ∨
    regField m = 3 ∨ regField m = 4 ∨ regField m = 5 := by
  revert m; decide
theorem regField_of_four_le {m : Byte} (h : 4 ≤ m.toNat / 8 % 8) : regField m = 4 ∨ regField m = 5 ∨ regField m = 6 ∨
    regField m = 7 := by
  revert m; decide
theorem regField_of_ne_zero {m : Byte} (h : m.toNat / 8 % 8 ≠ 0) : regField m = 1 ∨ regField m = 2 ∨ regField m = 3 ∨
    regField m = 4 ∨ regField m = 5 ∨ regField m = 6 ∨ regField m = 7 := by
  revert m; decide
theorem regField_of_eq_one {m : Byte} (h : m.toNat / 8 % 8 = 1) : regField m = 1 := by revert m; decide
theorem regField_of_eq_six {m : Byte} (h : m.toNat / 8 % 8 = 6) : regField m = 6 := by revert m; decide

/-- Settles O43: the first byte selects the raising row, or the group or table whose second byte does. -/
theorem faultingBytesHaltTheStep : Obligations.FaultingBytesHaltTheStep := by
  intro s h op sub reg
  refine ⟨fun hop => ?firstByte, ?secondByte, ?undefined⟩
  case firstByte =>
    have raises := readsRaise_unimplementedFirstByte (s.codeBytes.drop 1) op hop
    rw [BitVec.ofNat_toNat, BitVec.setWidth_eq] at raises
    exact ReadsRaise.step h raises
  case secondByte =>
    rintro (⟨hop, hreg⟩ | ⟨hop, hreg⟩ | ⟨hop, hE0, hF0⟩ | ⟨hop, hsub⟩)
    · simp only [List.mem_cons, List.not_mem_nil, or_false] at hop
      rcases hop with hop | hop | hop
      · rcases regField_of_two_or_three hreg with hreg | hreg <;>
          exact step_group8_raises (f := fun op m => .unimplemented op (some m)) 0x80 decodeGroup80 h hop hreg
          (fun _ => rfl) (fun _ => rfl) fun _ _ => ⟨_, _, rfl, fun _ => rfl⟩
      · rcases regField_of_two_or_three hreg with hreg | hreg <;>
          exact step_group16_raises (f := fun op m => .unimplemented op (some m)) 0x81 decodeGroup81 h hop hreg
          (fun _ => rfl) (fun _ => rfl) fun _ _ => ⟨_, _, rfl, fun _ => rfl⟩
      · rcases regField_of_two_or_three hreg with hreg | hreg <;>
          exact step_group16_raises (f := fun op m => .unimplemented op (some m)) 0x83 decodeGroup83 h hop hreg
          (fun _ => rfl) (fun _ => rfl) fun _ _ => ⟨_, _, rfl, fun _ => rfl⟩
    · simp only [List.mem_cons, List.not_mem_nil, or_false] at hop
      rcases hop with hop | hop
      · rcases regField_of_le_five hreg with hreg | hreg | hreg | hreg | hreg | hreg <;>
          exact step_group8_raises (f := fun op m => .unimplemented op (some m)) 0xF6 decodeGroupF6 h hop hreg
          (fun _ => rfl) (fun _ => rfl) fun _ _ => ⟨_, _, rfl, fun _ => rfl⟩
      · rcases regField_of_le_five hreg with hreg | hreg | hreg | hreg | hreg | hreg <;>
          exact step_group16_raises (f := fun op m => .unimplemented op (some m)) 0xF7 decodeGroupF7 h hop hreg
          (fun _ => rfl) (fun _ => rfl) fun _ _ => ⟨_, _, rfl, fun _ => rfl⟩
    · have raises := readsRaise_decodeEsc (s.codeBytes.drop 2) (fun k => hE0 (congrArg BitVec.toNat k))
        fun k => hF0 (congrArg BitVec.toNat k)
      have first : s.codeByte 0 = 0x0F := BitVec.eq_of_toNat_eq hop
      refine ReadsRaise.step h ?_
      change ReadsRaise _ (decodeOp (s.codeByte 0) _)
      rw [first]
      exact raises
    · have raises := readsRaise_decodeRep (sub := s.codeByte 1) (s.codeBytes.drop 2) fun k =>
        hsub (by simpa [sub] using List.mem_map_of_mem (f := BitVec.toNat) k)
      have first : s.codeByte 0 = 0xF3 := BitVec.eq_of_toNat_eq hop
      refine ReadsRaise.step h ?_
      change ReadsRaise _ (decodeOp (s.codeByte 0) _)
      rw [first]
      exact raises
  case undefined =>
    rintro (⟨hop, hreg⟩ | ⟨hop, hreg⟩ | ⟨hop, hreg⟩ | ⟨hop, hreg⟩)
    · simp only [List.mem_cons, List.not_mem_nil, or_false] at hop
      rcases hop with hop | hop
      · rcases regField_of_four_le hreg with hreg | hreg | hreg | hreg <;>
          exact step_group16_raises (f := .undefinedEncoding) 0x8C decodeGroup8C h hop hreg
          (fun _ => rfl) (fun _ => rfl) fun _ _ => ⟨_, _, rfl, fun _ => rfl⟩
      · rcases regField_of_four_le hreg with hreg | hreg | hreg | hreg <;>
          exact step_group16_raises (f := .undefinedEncoding) 0x8E decodeGroup8E h hop hreg
          (fun _ => rfl) (fun _ => rfl) fun _ _ => ⟨_, _, rfl, fun _ => rfl⟩
    · exact step_group16_raises (f := .undefinedEncoding) 0x8E decodeGroup8E h hop (regField_of_eq_one hreg)
        (fun _ => rfl) (fun _ => rfl) fun _ _ => ⟨_, _, rfl, fun _ => rfl⟩
    · simp only [List.mem_cons, List.not_mem_nil, or_false] at hop
      rcases hop with hop | hop
      · rcases regField_of_ne_zero hreg with hreg | hreg | hreg | hreg | hreg | hreg | hreg <;>
          exact step_group8_raises (f := .undefinedEncoding) 0xC6 decodeGroupC6 h hop hreg
          (fun _ => rfl) (fun _ => rfl) fun _ _ => ⟨_, _, rfl, fun _ => rfl⟩
      · rcases regField_of_ne_zero hreg with hreg | hreg | hreg | hreg | hreg | hreg | hreg <;>
          exact step_group16_raises (f := .undefinedEncoding) 0xC7 decodeGroupC7 h hop hreg
          (fun _ => rfl) (fun _ => rfl) fun _ _ => ⟨_, _, rfl, fun _ => rfl⟩
    · simp only [List.mem_cons, List.not_mem_nil, or_false] at hop
      rcases hop with hop | hop | hop | hop | hop | hop
      · exact step_group8_raises (f := .undefinedEncoding) 0xC0 decodeGroupC0 h hop (regField_of_eq_six hreg)
          (fun _ => rfl) (fun _ => rfl) fun _ _ => ⟨_, _, rfl, fun _ => rfl⟩
      · exact step_group16_raises (f := .undefinedEncoding) 0xC1 decodeGroupC1 h hop (regField_of_eq_six hreg)
          (fun _ => rfl) (fun _ => rfl) fun _ _ => ⟨_, _, rfl, fun _ => rfl⟩
      · exact step_group8_raises (f := .undefinedEncoding) 0xD0 decodeGroupD0 h hop (regField_of_eq_six hreg)
          (fun _ => rfl) (fun _ => rfl) fun _ _ => ⟨_, _, rfl, fun _ => rfl⟩
      · exact step_group16_raises (f := .undefinedEncoding) 0xD1 decodeGroupD1 h hop (regField_of_eq_six hreg)
          (fun _ => rfl) (fun _ => rfl) fun _ _ => ⟨_, _, rfl, fun _ => rfl⟩
      · exact step_group8_raises (f := .undefinedEncoding) 0xD2 decodeGroupD2 h hop (regField_of_eq_six hreg)
          (fun _ => rfl) (fun _ => rfl) fun _ _ => ⟨_, _, rfl, fun _ => rfl⟩
      · exact step_group16_raises (f := .undefinedEncoding) 0xD3 decodeGroupD3 h hop (regField_of_eq_six hreg)
          (fun _ => rfl) (fun _ => rfl) fun _ _ => ⟨_, _, rfl, fun _ => rfl⟩

end Sys2Proof.Machine

/-! PROOFS. Arithmetic and logic (41_arithmetic_logic.md R110 to R120): a result stored with the PSW of its flags, what
the flag setters say of P, Z, S, CY and V, and the forms of each operation. -/

namespace Sys2Proof.Machine

/-- `Runs` of the answer `r` of any operation; the `Runs` of an instruction is that of its meaning. -/
def RunsTo (r : Result) (s : State) (pc : Word) (c : Changes) (post : State → Prop) : Prop :=
  ∃ t, r = .next t ∧ t.pc = pc ∧ OnlyChanges c s t ∧ post t

/-! ## A result and its flags (R110) -/

namespace State

variable (s : State)

theorem onlyChanges_write8_setPsw {fs : List Flag} {psw : Word} (x : Place Reg8) (v : Byte)
    (h : ∀ i, (∀ f ∈ fs, f.bit ≠ i) → psw.getLsbD i = s.psw.getLsbD i) :
    OnlyChanges (s.changes8 x fs) s ((s.write8 x v).setPsw psw) := by
  have := (s.onlyChanges_write8 x v).trans
    ((s.write8 x v).onlyChanges_setPsw (fs := fs) (v := psw) (by simpa using h))
  simpa [Changes.append, changes8] using this

theorem onlyChanges_write16_setPsw {fs : List Flag} {psw : Word} (x : Place Reg16) (v : Word)
    (h : ∀ i, (∀ f ∈ fs, f.bit ≠ i) → psw.getLsbD i = s.psw.getLsbD i) :
    OnlyChanges (s.changes16 x fs) s ((s.write16 x v).setPsw psw) := by
  have := (s.onlyChanges_write16 x v).trans
    ((s.write16 x v).onlyChanges_setPsw (fs := fs) (v := psw) (by simpa using h))
  simpa [Changes.append, changes16] using this

end State

/-! ## The flags of an operation (R111 to R116, R120) -/

/-- The flags an operation writes. -/
def aluWrites : AluOp → List Flag
  | .add | .sub | .cmp => [.cy, .p, .z, .s, .v]
  | .or | .and | .xor => [.p, .z, .s]

theorem getLsbD_aluFlags {w : Nat} (op : AluOp) (psw : Word) (a b : BitVec w) (i : Nat)
    (h : ∀ f ∈ aluWrites op, f.bit ≠ i) : (aluFlags op psw a b).getLsbD i = psw.getLsbD i := by
  cases op
  case add | sub | cmp =>
    have five : [Flag.p, .z, .s, .cy, .v] ⊆ [.cy, .p, .z, .s, .v] := by decide
    exact getLsbD_setPZSCYV_of_forall_ne _ _ _ _ fun f hf => h f (five hf)
  case or | and | xor =>
    simp only [aluWrites, List.forall_mem_cons] at h
    obtain ⟨hp, hz, hs, -⟩ := h
    exact getLsbD_setPZS_of_notMem _ _ (by simp [hp.symm, hz.symm, hs.symm])

theorem getFlag_aluFlags_of_mem {w : Nat} (op : AluOp) (psw : Word) (a b : BitVec w) {f : Flag}
    (hf : f ∈ [Flag.p, .z, .s]) : getFlag (aluFlags op psw a b) f = getFlag (setPZS psw (aluValue op a b)) f := by
  cases op
  case add | sub | cmp => exact getFlag_setPZSCYV_of_mem _ _ _ _ hf
  case or | and | xor => rfl

/-- A PSW with P, Z and S of `setPZS` has them as R18 says. -/
theorem pzsOf_of_getFlag {w : Nat} {t : State} {psw : Word} {r : BitVec w}
    (h : ∀ f ∈ [Flag.p, .z, .s], t.flag f = getFlag (setPZS psw r) f) : PZSOf t r where
  p := by rw [h .p (by decide), getFlag_setPZS_p, parityEven_eq_decide, decide_eq_true_eq]
  z := by rw [h .z (by decide), getFlag_setPZS_z, decide_eq_true_eq]
  s := by rw [h .s (by decide), getFlag_setPZS_s, BitVec.msb_eq_getLsbD_last]

theorem pzsOf_aluFlags {w : Nat} {t : State} {psw : Word} {op : AluOp} {a b : BitVec w}
    (h : t.psw = aluFlags op psw a b) : PZSOf t (aluValue op a b) :=
  pzsOf_of_getFlag fun f hf => by rw [State.flag, h, getFlag_aluFlags_of_mem op psw a b hf]

/-- An exact signed result outside the range of `w` bits is not the result modulo 2^w (R120). -/
theorem ne_bmod_iff {w : Nat} (hw : 0 < w) (x : Int) :
    x ≠ x.bmod (2 ^ w) ↔ x < -(2 ^ (w - 1)) ∨ 2 ^ (w - 1) ≤ x := by
  obtain ⟨n, rfl⟩ := Nat.exists_eq_succ_of_ne_zero hw.ne'
  have lower := Int.le_bmod (x := x) (m := 2 ^ (n + 1)) (by positivity)
  have upper := Int.bmod_lt (x := x) (m := 2 ^ (n + 1)) (by positivity)
  have inside : -(2 ^ n : Int) ≤ x → x < 2 ^ n → x.bmod (2 ^ (n + 1)) = x := fun h₁ h₂ =>
    Int.bmod_eq_of_le (by push_cast; omega) (by push_cast; omega)
  push_cast at lower upper
  simp only [Nat.succ_eq_add_one, Nat.add_sub_cancel]
  omega

theorem addFlagsOf_aluFlags {w : Nat} (hw : 0 < w) {t : State} {psw : Word} {a b : BitVec w}
    (h : t.psw = aluFlags .add psw a b) : AddFlagsOf t a b where
  cy := by simp [State.flag, h, aluFlags, addCarry]
  v := by
    rw [State.flag, h, aluFlags, getFlag_setPZSCYV_v, addOverflow, bne_iff_ne, BitVec.toInt_add]
    exact ne_bmod_iff hw _

/-- SUB, and CMP with its flags (R114, R116). -/
theorem subFlagsOf_aluFlags {w : Nat} (hw : 0 < w) {t : State} {psw : Word} {a b : BitVec w}
    (h : t.psw = aluFlags .sub psw a b) : SubFlagsOf t a b where
  cy := by simp [State.flag, h, aluFlags, subBorrow]
  v := by
    rw [State.flag, h, aluFlags, getFlag_setPZSCYV_v, subOverflow, bne_iff_ne, BitVec.toInt_sub]
    exact ne_bmod_iff hw _

/-! ## The operations with a destination (R110) -/

section Alu

variable {s : State} {op : AluOp} (hop : aluStores op = true)
include hop

theorem alu8_eq_next (dst : Place Reg8) (a b : Byte) :
    alu8 op dst a b s = .next ((s.write8 dst (aluValue op a b)).setPsw (aluFlags op s.psw a b)) := by
  simp [alu8, hop]

theorem alu16_eq_next (dst : Place Reg16) (a b : Word) :
    alu16 op dst a b s = .next ((s.write16 dst (aluValue op a b)).setPsw (aluFlags op s.psw a b)) := by
  simp [alu16, hop]

theorem runsTo_alu8 (h : s.wf = true) {dst : Place Reg8} {a b : Byte} : RunsTo (alu8 op dst a b s) s s.pc
    (s.changes8 dst (aluWrites op)) fun t => t.read8 dst = aluValue op a b ∧ t.psw = aluFlags op s.psw a b := by
  refine ⟨_, alu8_eq_next hop dst a b, ?_, ?_, ?_, rfl⟩
  · simp
  · exact s.onlyChanges_write8_setPsw _ _ (getLsbD_aluFlags op s.psw a b)
  · rw [State.read8_setPsw, State.read8_write8_same h]

theorem runsTo_alu16 (h : s.wf = true) {dst : Place Reg16} {a b : Word} : RunsTo (alu16 op dst a b s) s s.pc
    (s.changes16 dst (aluWrites op)) fun t => t.read16 dst = aluValue op a b ∧ t.psw = aluFlags op s.psw a b := by
  refine ⟨_, alu16_eq_next hop dst a b, ?_, ?_, ?_, rfl⟩
  · simp
  · exact s.onlyChanges_write16_setPsw _ _ (getLsbD_aluFlags op s.psw a b)
  · rw [State.read16_setPsw, State.read16_write16_same h]

end Alu

theorem RunsTo.imp {r : Result} {s : State} {pc : Word} {c : Changes} {p q : State → Prop}
    (h : RunsTo r s pc c p) (hpq : ∀ t, p t → q t) : RunsTo r s pc c q := by
  obtain ⟨t, next, hpc, changes, post⟩ := h
  exact ⟨t, next, hpc, changes, hpq t post⟩

/-- Settles O36: the nine forms are one operation at two widths. -/
theorem addStoresTheSum : Obligations.AddStoresTheSum := by
  intro s h
  have byte {dst a b} := (runsTo_alu8 (op := .add) rfl h (dst := dst) (a := a) (b := b)).imp fun t ⟨stored, flags⟩ =>
    And.intro stored (And.intro (addFlagsOf_aluFlags (by decide) flags) (pzsOf_aluFlags flags))
  have word {dst a b} := (runsTo_alu16 (op := .add) rfl h (dst := dst) (a := a) (b := b)).imp fun t ⟨stored, flags⟩ =>
    And.intro stored (And.intro (addFlagsOf_aluFlags (by decide) flags) (pzsOf_aluFlags flags))
  exact ⟨fun _ _ => byte, fun _ _ => word, fun _ _ => byte, fun _ _ => word, fun _ => byte, fun _ => word,
    fun _ _ => byte, fun _ _ => word, fun _ _ => word⟩

/-- Settles O37: as ADD, with the flags of a subtraction. -/
theorem subStoresTheDifference : Obligations.SubStoresTheDifference := by
  intro s h
  have byte {dst a b} := (runsTo_alu8 (op := .sub) rfl h (dst := dst) (a := a) (b := b)).imp fun t ⟨stored, flags⟩ =>
    And.intro stored (And.intro (subFlagsOf_aluFlags (by decide) flags) (pzsOf_aluFlags flags))
  have word {dst a b} := (runsTo_alu16 (op := .sub) rfl h (dst := dst) (a := a) (b := b)).imp fun t ⟨stored, flags⟩ =>
    And.intro stored (And.intro (subFlagsOf_aluFlags (by decide) flags) (pzsOf_aluFlags flags))
  exact ⟨fun _ _ => byte, fun _ _ => word, fun _ _ => byte, fun _ _ => word, fun _ => byte, fun _ => word,
    fun _ _ => byte, fun _ _ => word, fun _ _ => word⟩

/-- Settles O39: three operations that write P, Z and S only. -/
theorem logicStoresTheBitwiseResult : Obligations.LogicStoresTheBitwiseResult := by
  intro s h
  have byte (op) (hop : aluStores op = true) {dst a b} := (runsTo_alu8 hop h (dst := dst) (a := a) (b := b)).imp
    fun t ⟨stored, flags⟩ => And.intro stored (pzsOf_aluFlags (op := op) flags)
  have word (op) (hop : aluStores op = true) {dst a b} := (runsTo_alu16 hop h (dst := dst) (a := a) (b := b)).imp
    fun t ⟨stored, flags⟩ => And.intro stored (pzsOf_aluFlags (op := op) flags)
  refine ⟨?or, ?and, ?xor⟩
  case or =>
    exact ⟨fun _ _ => byte .or rfl, fun _ _ => word .or rfl, fun _ _ => byte .or rfl, fun _ _ => word .or rfl,
      fun _ => byte .or rfl, fun _ => word .or rfl, fun _ _ => byte .or rfl, fun _ _ => word .or rfl,
      fun _ _ => word .or rfl⟩
  case and =>
    exact ⟨fun _ _ => byte .and rfl, fun _ _ => word .and rfl, fun _ _ => byte .and rfl, fun _ _ => word .and rfl,
      fun _ => byte .and rfl, fun _ => word .and rfl, fun _ _ => byte .and rfl, fun _ _ => word .and rfl,
      fun _ _ => word .and rfl⟩
  case xor =>
    exact ⟨fun _ _ => byte .xor rfl, fun _ _ => word .xor rfl, fun _ _ => byte .xor rfl, fun _ _ => word .xor rfl,
      fun _ => byte .xor rfl, fun _ => word .xor rfl, fun _ _ => byte .xor rfl, fun _ _ => word .xor rfl,
      fun _ _ => word .xor rfl⟩

/-! ## CMP (R116) -/

/-- The PSW of a comparison and nothing stored. -/
theorem runsTo_cmpFlags {w : Nat} (hw : 0 < w) (s : State) (a b : BitVec w) :
    RunsTo (.next (s.setPsw (aluFlags .cmp s.psw a b))) s s.pc { flags := [.cy, .p, .z, .s, .v] } fun t =>
      SubFlagsOf t a b ∧ PZSOf t (a - b) ∧ (t.flag .z = true ↔ a = b) := by
  have pzs : PZSOf (s.setPsw (aluFlags .cmp s.psw a b)) (a - b) := pzsOf_aluFlags (op := .cmp) (a := a) (b := b) rfl
  exact ⟨_, rfl, rfl, s.onlyChanges_setPsw (getLsbD_aluFlags .cmp s.psw a b), subFlagsOf_aluFlags hw rfl, pzs,
    pzs.z.trans sub_eq_zero⟩

/-- Settles O38: CMP keeps the state but for the PSW of SUB. -/
theorem cmpSetsFlagsOnly : Obligations.CmpSetsFlagsOnly := by
  intro s
  have byte {a b : Byte} := runsTo_cmpFlags (by decide) s a b
  have word {a b : Word} := runsTo_cmpFlags (by decide) s a b
  exact ⟨fun _ _ => byte, fun _ _ => word, fun _ _ => byte, fun _ _ => word, fun _ => byte, fun _ => word,
    fun _ _ => byte, fun _ _ => word, fun _ _ => word⟩

/-! ## INC and DEC (R118, R119) -/

/-- A word register and the five flags of its new value. -/
theorem runsTo_setReg16_flags (s : State) (r : Reg16) (v : Word) (cy ov : Bool) :
    RunsTo (.next ((s.setReg16 r v).setPsw (setPZSCYV (s.setReg16 r v).psw v cy ov))) s s.pc
      { regs := [r], flags := [.cy, .p, .z, .s, .v] } fun t =>
      t.reg16 r = v ∧ t.flag .cy = cy ∧ t.flag .v = ov ∧ PZSOf t v := by
  refine ⟨_, rfl, by simp, ?frame, by simp, by simp [State.flag], by simp [State.flag], ?pzs⟩
  case frame =>
    have five : [Flag.p, .z, .s, .cy, .v] ⊆ [.cy, .p, .z, .s, .v] := by decide
    simpa [Changes.append] using (s.onlyChanges_setReg16 r v).trans ((s.setReg16 r v).onlyChanges_setPsw
      fun i hi => getLsbD_setPZSCYV_of_forall_ne _ v cy ov fun f hf => hi f (five hf))
  case pzs => exact pzsOf_of_getFlag fun f hf => getFlag_setPZSCYV_of_mem (s.setReg16 r v).psw v cy ov hf

/-- Settles O40: both write their register and the five flags of its new value. -/
theorem incAndDecWriteCarry : Obligations.IncAndDecWriteCarry := by
  intro s r
  constructor
  · refine (runsTo_setReg16_flags s r (s.reg16 r + 1) _ _).imp fun t ⟨value, cy, ov, pzs⟩ => ?_
    rw [value, cy, ov, beq_iff_eq, beq_iff_eq]
    exact ⟨BitVec.toNat_add _ _, Iff.rfl, Iff.rfl, pzs⟩
  · refine (runsTo_setReg16_flags s r (s.reg16 r - 1) _ _).imp fun t ⟨value, cy, ov, pzs⟩ => ?_
    rw [value, cy, ov, beq_iff_eq, beq_iff_eq]
    exact ⟨by bv_omega, Iff.rfl, Iff.rfl, pzs⟩

end Sys2Proof.Machine

/-! PROOFS. Data movement and control flow: MOV (42_data_movement.md), PUSH and POP (43_stack.md), the branches, CALL
and RET (45_control_flow.md). One lemma per kind of destination; the forms are instances. -/

namespace Sys2Proof.Machine

/-! ## A value stored in one place -/

section Store

variable (s : State)

theorem runsTo_setReg8 (r : Reg8) (v : Byte) :
    RunsTo (.next (s.setReg8 r v)) s s.pc { halves := [r] } fun t => t.reg8 r = v :=
  ⟨_, rfl, s.setReg8_pc r v, s.onlyChanges_setReg8 r v, s.reg8_setReg8_same r v⟩

theorem runsTo_setReg16 (r : Reg16) (v : Word) :
    RunsTo (.next (s.setReg16 r v)) s s.pc { regs := [r] } fun t => t.reg16 r = v :=
  ⟨_, rfl, s.setReg16_pc r v, s.onlyChanges_setReg16 r v, s.reg16_setReg16_same r v⟩

theorem runsTo_setSReg (r : SReg) (v : Word) :
    RunsTo (.next (s.setSReg r v)) s s.pc { sregs := [r] } fun t => t.sreg r = v :=
  ⟨_, rfl, s.setSReg_pc r v, s.onlyChanges_setSReg r v, s.sreg_setSReg_same r v⟩

variable {s} (h : s.wf = true)
include h

theorem runsTo_write8 (x : Place Reg8) (v : Byte) :
    RunsTo (.next (s.write8 x v)) s s.pc (s.changes8 x []) fun t => t.read8 x = v :=
  ⟨_, rfl, s.write8_pc x v, s.onlyChanges_write8 x v, State.read8_write8_same h x v⟩

theorem runsTo_write16 (x : Place Reg16) (v : Word) :
    RunsTo (.next (s.write16 x v)) s s.pc (s.changes16 x []) fun t => t.read16 x = v :=
  ⟨_, rfl, s.write16_pc x v, s.onlyChanges_write16 x v, State.read16_write16_same h x v⟩

end Store

/-- Settles O41: a MOV stores in an operand, a register or a direct address, which is an operand too. -/
theorem movCopiesTheSource : Obligations.MovCopiesTheSource := by
  intro s h
  exact ⟨fun rm _ => runsTo_write8 h (resolve s rm) _, fun rm _ => runsTo_write16 h (resolve s rm) _,
    fun r _ => runsTo_setReg8 s r _, fun r _ => runsTo_setReg16 s r _,
    fun rm v => runsTo_write8 h (resolve s rm) v, fun rm v => runsTo_write16 h (resolve s rm) v,
    fun r v => runsTo_setReg8 s r v, fun r v => runsTo_setReg16 s r v,
    fun _ => runsTo_setReg8 s .al _, fun _ => runsTo_setReg16 s .aw _,
    fun a => runsTo_write8 h (.mem s.dataSeg a) _, fun a => runsTo_write16 h (.mem s.dataSeg a) _⟩

/-- Settles O42: the source is read before the destination is written. -/
theorem movMovesSegmentRegisters : Obligations.MovMovesSegmentRegisters := by
  intro s h rm
  exact ⟨fun _ => runsTo_write16 h (resolve s rm) _, runsTo_setSReg s .ds1 _, fun r _ => runsTo_setSReg s r _⟩

/-! ## PUSH and POP (R160 to R165) -/

namespace State

variable (s : State)

theorem sub_two_add_one (x : Word) : x - 2 + 1 = x - 1 := by bv_omega

/-- The two bytes of a push, as the statements name them. -/
theorem wordCells_push : s.wordCells s.ss (s.sp - 2) = [s.cellAt s.ss (s.sp - 2), s.cellAt s.ss (s.sp - 1)] := by
  rw [wordCells, sub_two_add_one]

/-- The state after a push. -/
def pushed (v : Word) : State := (s.setReg16 .sp (s.sp - 2)).memWrite16 s.ss (s.sp - 2) v

theorem onlyChanges_pushed (v : Word) : OnlyChanges s.pushChanges s (s.pushed v) := by
  rw [pushChanges, ← wordCells_push]
  simpa [Changes.append, pushed] using
    (s.onlyChanges_setReg16 .sp (s.sp - 2)).trans (onlyChanges_memWrite16 _ s.ss (s.sp - 2) v)

theorem push16_of_le_sp_pushed (v : Word) (room : 2 ≤ s.sp.toNat) : s.push16 v = .ok (s.pushed v) :=
  s.push16_of_le_sp v room

@[simp] theorem cellAt_pushed (v seg off : Word) : (s.pushed v).cellAt seg off = s.cellAt seg off := by simp [pushed]
@[simp] theorem pushed_pc (v : Word) : (s.pushed v).pc = s.pc := by simp [pushed]
@[simp] theorem pushed_sp (v : Word) : (s.pushed v).sp = s.sp - 2 := reg16_memWrite16 _ _ _ _ .sp
@[simp] theorem sreg_pushed (v : Word) (r : SReg) : (s.pushed v).sreg r = s.sreg r := by simp [pushed]

theorem wf_pushed {s : State} (h : s.wf = true) (v : Word) : (s.pushed v).wf = true :=
  wf_memWrite16 (wf_setReg16 h _ _) _ _ _

theorem memRead16_pushed {s : State} (h : s.wf = true) (v : Word) : (s.pushed v).memRead16 s.ss (s.sp - 2) = v :=
  memRead16_memWrite16_same (wf_setReg16 h _ _) _ _ _

end State

section Push

variable {s : State} {i : Instr} {v : Word} (push : exec i s = pushValue v s)
include push

theorem raises_pushValue (low : s.sp.toNat < 2) : Raises i s (.stackOverflow s.sp) :=
  ⟨_, by rw [push, pushValue, s.push16_of_sp_lt v low]; rfl, rfl⟩

theorem runs_pushValue (h : s.wf = true) (room : 2 ≤ s.sp.toNat) :
    Runs i s s.pc s.pushChanges fun t => t.sp = s.sp - 2 ∧ t.memRead16 s.ss (s.sp - 2) = v :=
  ⟨s.pushed v, by rw [push, pushValue, s.push16_of_le_sp v room]; rfl, s.pushed_pc v, s.onlyChanges_pushed v,
    s.pushed_sp v, State.memRead16_pushed h v⟩

end Push

/-- Settles O44: every PUSH pushes the value its register has before the push. -/
theorem pushStoresTheRegister : Obligations.PushStoresTheRegister := by
  intro s h
  have pushes {i : Instr} {v : Word} (push : exec i s = pushValue v s) :=
    And.intro (raises_pushValue push) (runs_pushValue push h)
  refine ⟨fun r => pushes (v := s.reg16 r) rfl, ?_⟩
  obtain ⟨ds1, ds1'⟩ := pushes (i := .pushDs1) rfl
  obtain ⟨ps, ps'⟩ := pushes (i := .pushPs) rfl
  obtain ⟨ss, ss'⟩ := pushes (i := .pushSs) rfl
  obtain ⟨ds0, ds0'⟩ := pushes (i := .pushDs0) rfl
  obtain ⟨psw, psw'⟩ := pushes (i := .pushPsw) rfl
  exact ⟨ds1, ds1', ps, ps', ss, ss', ds0, ds0', psw, psw'⟩

namespace State

variable (s : State)

theorem onlyChanges_pop16_setReg16 (r : Reg16) (v : Word) :
    OnlyChanges { regs := [r, .sp] } s (s.pop16.2.setReg16 r v) :=
  (s.onlyChanges_pop16.trans (s.pop16.2.onlyChanges_setReg16 r v)).mono (by simp [Changes.append])
    nofun nofun nofun nofun nofun nofun rfl

theorem onlyChanges_pop16_setSReg (r : SReg) (v : Word) :
    OnlyChanges { regs := [.sp], sregs := [r] } s (s.pop16.2.setSReg r v) :=
  s.onlyChanges_pop16.trans (s.pop16.2.onlyChanges_setSReg r v)

end State

theorem runsTo_popSReg (s : State) (r : SReg) :
    RunsTo (.next (s.pop16.2.setSReg r s.pop16.1)) s s.pc { regs := [.sp], sregs := [r] } fun t =>
      t.sreg r = s.memRead16 s.ss s.sp ∧ t.sp = s.sp + 2 :=
  ⟨_, rfl, by simp, s.onlyChanges_pop16_setSReg r _, by simp, by simp⟩

/-- Settles O45: SP moves first, so a popped SP stays. -/
theorem popLoadsTheRegister : Obligations.PopLoadsTheRegister := by
  intro s
  refine ⟨fun r => ⟨_, rfl, by simp, s.onlyChanges_pop16_setReg16 r _, by simp, fun hr => ?sp⟩, runsTo_popSReg s .ds1,
    runsTo_popSReg s .ss, runsTo_popSReg s .ds0, ?psw⟩
  case sp => rw [State.setReg16_sp, if_neg hr.symm, State.pop16_sp, BitVec.toNat_add]; rfl
  case psw =>
    have frame := s.onlyChanges_pop16.trans (s.pop16.2.onlyChanges_setPsw_all s.pop16.1)
    exact ⟨_, rfl, by simp, frame.mono (by simp [Changes.append]) nofun nofun nofun (fun _ => rfl) nofun nofun rfl,
      by simp, by simp⟩

/-! ## Branches (R200 to R202, R207 to R223) -/

theorem add_eq_ofInt (pc d : Word) : pc + d = BitVec.ofInt 16 (pc.toNat + d.toInt) := by
  rw [BitVec.ofInt_add, BitVec.ofInt_natCast, BitVec.ofInt_toInt, BitVec.ofNat_toNat, BitVec.setWidth_eq]

theorem add_sext16_eq_ofInt (pc : Word) (d : Byte) : pc + sext16 d = BitVec.ofInt 16 (pc.toNat + d.toInt) := by
  rw [add_eq_ofInt, sext16, BitVec.toInt_signExtend_of_le (by decide)]

theorem State.onlyChanges_farJump (s : State) (seg off : Word) : OnlyChanges { sregs := [.ps] } s (s.farJump seg off) :=
  (s.onlyChanges_setSReg .ps seg).trans ((s.setSReg .ps seg).onlyChanges_setPc off)

@[simp] theorem State.farJump_pc (s : State) (seg off : Word) : (s.farJump seg off).pc = off := rfl
@[simp] theorem State.farJump_ps (s : State) (seg off : Word) : (s.farJump seg off).ps = seg := rfl

/-- Settles O48: the two relative targets and the far jump. -/
theorem branchesLoadPc : Obligations.BranchesLoadPc := by
  intro s
  exact ⟨fun d => ⟨_, rfl, add_eq_ofInt s.pc d, s.onlyChanges_setPc _, trivial⟩,
    fun d => ⟨_, rfl, add_sext16_eq_ofInt s.pc d, s.onlyChanges_setPc _, trivial⟩,
    fun off seg => ⟨_, rfl, s.farJump_pc seg off, s.onlyChanges_farJump seg off, s.farJump_ps seg off⟩⟩

/-- A conditional branch whose condition is that of the statement. -/
theorem runs_branchIf {i : Instr} {s : State} {d : Byte} {cond : Bool} {p : Prop}
    (branch : exec i s = branchIf cond d s) (hp : cond = true ↔ p) :
    (p → Runs i s (BitVec.ofInt 16 (s.pc.toNat + d.toInt)) {} fun _ => True) ∧
      (¬ p → Runs i s s.pc {} fun _ => True) := by
  constructor
  · intro taken
    exact ⟨s.branch (sext16 d), by rw [branch, branchIf, if_pos (hp.mpr taken)],
      add_sext16_eq_ofInt s.pc d, s.onlyChanges_setPc _, trivial⟩
  · intro untaken
    exact ⟨s, by rw [branch, branchIf, if_neg (mt hp.mp untaken)], rfl, .refl s, trivial⟩

/-- Settles O51: each condition as its function of the flags. -/
theorem conditionalBranchesTestTheirFlags : Obligations.ConditionalBranchesTestTheirFlags := by
  intro s d
  exact ⟨runs_branchIf rfl (by simp [condBv]), runs_branchIf rfl (by simp [condBnv]),
    runs_branchIf rfl (by simp [condBc]), runs_branchIf rfl (by simp [condBnc]),
    runs_branchIf rfl (by simp [condBe]), runs_branchIf rfl (by simp [condBne]),
    runs_branchIf rfl (by simp [condBnh]), runs_branchIf rfl (by simp [condBh]),
    runs_branchIf rfl (by simp [condBn]), runs_branchIf rfl (by simp [condBp]),
    runs_branchIf rfl (by simp [condBpe]), runs_branchIf rfl (by simp [condBpo]),
    runs_branchIf rfl (by simp [condBlt]), runs_branchIf rfl (by simp [condBge]),
    runs_branchIf rfl (by simp [condBle]), runs_branchIf rfl (by simp [condBgt])⟩

/-! ## CALL and RET (R203 to R206) -/

namespace State

variable {s : State}

theorem memRead16_memWrite8_other (seg off : Word) (v : Byte) {o : Word} (lo : o ≠ off) (hi : o + 1 ≠ off) :
    (s.memWrite8 seg off v).memRead16 seg o = s.memRead16 seg o := by
  rw [memRead16, memRead16, memRead8_memWrite8_other _ _ _ _ (cellAt_ne s seg lo),
    memRead8_memWrite8_other _ _ _ _ (cellAt_ne s seg hi)]

/-- A push leaves the word above it. -/
theorem memRead16_pushed_above (v : Word) : (s.pushed v).memRead16 s.ss s.sp = s.memRead16 s.ss s.sp := by
  rw [pushed, memWrite16, memRead16_memWrite8_other _ _ _ (by bv_omega) (by bv_omega),
    memRead16_memWrite8_other _ _ _ (by bv_omega) (by bv_omega), memRead16_setReg16]

end State

section CallFar

variable {s : State} (off seg : Word)

theorem callFar_of_sp_lt_four (room : 2 ≤ s.sp.toNat) (low : s.sp.toNat < 4) :
    execCallFar off seg s = (s.pushed s.ps).raise (.stackOverflow (s.sp - 2)) := by
  have second := (s.pushed s.ps).push16_of_sp_lt s.pc (by rw [s.pushed_sp]; bv_omega)
  simp only [execCallFar, s.push16_of_le_sp_pushed s.ps room, s.pushed_pc, second, s.pushed_sp]

theorem callFar_of_four_le_sp (room : 4 ≤ s.sp.toNat) :
    execCallFar off seg s = .next (((s.pushed s.ps).pushed s.pc).farJump seg off) := by
  have second := (s.pushed s.ps).push16_of_le_sp_pushed s.pc (by rw [s.pushed_sp]; bv_omega)
  simp only [execCallFar, s.push16_of_le_sp_pushed s.ps (by omega), s.pushed_pc, second]

end CallFar

/-- What two pushes may change, with the lower word's bytes first. -/
def State.pushTwiceChanges (s : State) : Changes where
  regs := [.sp]
  cells := [s.cellAt s.ss (s.sp - 4), s.cellAt s.ss (s.sp - 3), s.cellAt s.ss (s.sp - 2), s.cellAt s.ss (s.sp - 1)]

theorem State.onlyChanges_pushed_pushed (s : State) (v w : Word) :
    OnlyChanges s.pushTwiceChanges s ((s.pushed v).pushed w) := by
  have low : s.sp - 2#16 - 2#16 = s.sp - 4#16 ∧ s.sp - 2#16 - 1#16 = s.sp - 3#16 := ⟨by bv_omega, by bv_omega⟩
  refine ((s.onlyChanges_pushed v).trans ((s.pushed v).onlyChanges_pushed w)).mono
    ?_ nofun nofun nofun nofun ?_ nofun rfl
  · simp [Changes.append, pushChanges, pushTwiceChanges]
  · have ss : (s.pushed v).ss = s.ss := s.sreg_pushed v .ss
    simp [Changes.append, pushChanges, pushTwiceChanges, ss, low]

/-- Settles O49: CALL far pushes PS below the old SP and PC below that. -/
theorem callPushesTheReturnAddress : Obligations.CallPushesTheReturnAddress := by
  intro s h
  refine ⟨fun d => ⟨fun low => ?nearRaises, fun room => ?nearRuns⟩,
    fun off seg => ⟨fun low => ?farRaises, fun room low => ⟨_, callFar_of_sp_lt_four off seg room low, rfl⟩,
      fun room => ?farRuns⟩⟩
  case nearRaises => exact ⟨_, by simp only [exec, execCallNear, s.push16_of_sp_lt s.pc low]; rfl, rfl⟩
  case nearRuns =>
    have pushed : exec (.callNear d) s = .next ((s.pushed s.pc).branch d) := by
      simp only [exec, execCallNear, s.push16_of_le_sp_pushed s.pc room]
    refine ⟨_, pushed, ?pc, ?frame, s.pushed_sp s.pc, State.memRead16_pushed h s.pc⟩
    case pc => rw [State.branch, State.setPc_pc, s.pushed_pc, add_eq_ofInt]
    case frame => exact (s.onlyChanges_pushed s.pc).trans (State.onlyChanges_setPc _ _)
  case farRaises => exact ⟨_, by simp only [exec, execCallFar, s.push16_of_sp_lt s.ps low]; rfl, rfl⟩
  case farRuns =>
    have lower : s.sp - 2#16 - 2#16 = s.sp - 4#16 := by bv_omega
    have ss : (s.pushed s.ps).ss = s.ss := s.sreg_pushed s.ps .ss
    have first : ((s.pushed s.ps).pushed s.pc).memRead16 s.ss (s.sp - 2) = s.ps := by
      have above := State.memRead16_pushed_above (s := s.pushed s.ps) s.pc
      rw [ss, s.pushed_sp] at above
      exact above.trans (State.memRead16_pushed h s.ps)
    have second : ((s.pushed s.ps).pushed s.pc).memRead16 s.ss (s.sp - 4) = s.pc := by
      simpa [ss, lower] using State.memRead16_pushed (State.wf_pushed h s.ps) s.pc
    refine ⟨_, callFar_of_four_le_sp off seg room, rfl, ?frame, ?sp, ?_, ?_, rfl⟩
    case frame => exact (s.onlyChanges_pushed_pushed s.ps s.pc).trans (State.onlyChanges_farJump _ seg off)
    case sp => simp [State.farJump, lower]
    · simpa [State.farJump] using second
    · simpa [State.farJump] using first

/-- Settles O50: RET far pops PC, then PS. -/
theorem retPopsTheReturnAddress : Obligations.RetPopsTheReturnAddress := by
  intro s
  refine ⟨⟨_, rfl, rfl, s.onlyChanges_pop16.trans (s.pop16.2.onlyChanges_setPc _), by simp⟩,
    ⟨_, rfl, rfl, ?frame, ?ps, ?sp⟩⟩
  case frame =>
    exact ((s.onlyChanges_pop16.trans s.pop16.2.onlyChanges_pop16).trans (State.onlyChanges_farJump _ _ _)).mono
      (by simp [Changes.append]) nofun (by simp [Changes.append]) nofun nofun nofun nofun rfl
  case ps => rfl
  case sp =>
    show s.sp + 2 + 2 = s.sp + 4
    bv_omega

end Sys2Proof.Machine

/-! PROOFS. Memory, ports and operands as such: the bank select (20_memory.md R42), word accesses (R40, R43), outputs
(R49, R50, R58), IN and OUT (46_io.md), the bank switch (48_extended_addressing.md), the resolver (30_encoding.md R72 to
R74) and the data segment (R44). -/

namespace Sys2Proof.Machine

namespace State

variable (s : State)

/-! ## The bank select (R42) -/

theorem selectsExtended_iff (a : Nat) : s.selectsExtended a = true ↔ s.xa = true ∧ a < 0xA0000 := by
  rw [selectsExtended, Bool.and_eq_true]
  exact and_congr_right fun _ => decide_eq_true_iff

/-- A store through the bank select changes one byte. -/
theorem onlyChanges_physWrite (a : Nat) (v : Byte) :
    OnlyChanges { cells := [(if s.selectsExtended a then .extended else .conventional, a)] } s (s.physWrite a v) := by
  constructor
  case cells => exact fun x hx => s.cell_physWrite_other v (by simpa using hx)
  case halves => intros; simp [reg8]
  case trace | internal | lastOpcode | clock | halted => unfold physWrite; split <;> simp
  all_goals simp

end State

/-- Settles O29: the selector is `xa` below 0xA0000. -/
theorem bankSelect : Obligations.BankSelect := by
  intro s a
  simp only [← s.selectsExtended_iff a]
  refine ⟨by simp [State.xa], ?read, fun v h => ?write⟩
  case read => rw [s.physRead_eq_cell]; split <;> rfl
  case write =>
    obtain ⟨⟨memory, -⟩, ⟨extended, -⟩, -⟩ := s.wf_iff.mp h
    exact ⟨s.cell_physWrite_same memory extended a v, s.physWrite_pc a v, s.physWrite_psw a v,
      s.onlyChanges_physWrite a v⟩

/-- Settles O30: low byte first, the second offset wrapped. -/
theorem wordAccessIsLittleEndian : Obligations.WordAccessIsLittleEndian := fun s seg off v =>
  ⟨rfl, fun h => ⟨State.memRead8_memWrite16_low h seg off v, State.memRead8_memWrite16_high h seg off v,
    State.memRead16_memWrite16_same h seg off v, s.onlyChanges_memWrite16 seg off v⟩⟩

/-! ## Outputs (R49, R50) -/

namespace State

theorem portRead8_output8_other (s : State) {p q : Word} (v : Byte) (h : q ≠ p) :
    (s.output8 p v).portRead8 q = s.portRead8 q :=
  (s.onlyChanges_output8 p v).ports q (by simpa using h)

section Ports

variable {s : State} (h : s.wf = true)
include h

theorem portRead8_output8_same (p : Word) (v : Byte) : (s.output8 p v).portRead8 p = v := by
  obtain ⟨-, -, ⟨ports, -⟩, -⟩ := s.wf_iff.mp h
  rw [output8, portRead8_record, portRead8_portWrite8_same s ports]

theorem portRead8_output16_high (p v : Word) : (s.output16 p v).portRead8 (p + 1) = hiByte v :=
  portRead8_output8_same (wf_output8 h _ _) _ _

theorem portRead8_output16_low (p v : Word) : (s.output16 p v).portRead8 p = loByte v := by
  rw [output16, portRead8_output8_other _ _ (add_one_ne p).symm, portRead8_output8_same h]

theorem portRead16_output16_same (p v : Word) : (s.output16 p v).portRead16 p = v := by
  rw [portRead16, portRead8_output16_high h, portRead8_output16_low h, wordOf_hiByte_loByte]

end Ports

end State

/-- Settles O32: a word output is two byte outputs. -/
theorem outputWritesThePortThenTheTrace : Obligations.OutputWritesThePortThenTheTrace := fun s h =>
  ⟨fun p v => ⟨State.portRead8_output8_same h p v, s.output8_pc p v, s.onlyChanges_output8 p v⟩,
    fun p v => ⟨State.portRead8_output16_low h p v, State.portRead8_output16_high h p v,
      State.portRead16_output16_same h p v, s.output16_pc p v, s.onlyChanges_output16 p v⟩, fun _ => rfl⟩

/-! ## Outputs and the bank (R58) -/

namespace State

variable (s : State)

/-- `xa` is a function of the byte at XA_PORT and of XA_MASK. -/
theorem xa_iff : s.xa = true ↔ s.portRead8 s.cfg.xaPort &&& s.cfg.xaMask ≠ 0 := by simp [xa]

theorem xa_congr {t : State} (cfg : t.cfg = s.cfg) (port : t.portRead8 s.cfg.xaPort = s.portRead8 s.cfg.xaPort) :
    t.xa = s.xa := by
  rw [xa, xa, cfg, port]

theorem xa_of_onlyChanges {s t : State} {c : Changes} (h : OnlyChanges c s t) {v : Byte}
    (port : t.portRead8 s.cfg.xaPort = v) : t.xa = true ↔ v &&& s.cfg.xaMask ≠ 0 := by
  rw [xa_iff, h.cfg, port]

end State

/-- Settles O33: the byte that reaches XA_PORT last decides. -/
theorem outputToXaPortSwitchesTheBank : Obligations.OutputToXaPortSwitchesTheBank := by
  intro s h
  refine ⟨fun v => ?byte, fun p v hp => ?byteElsewhere, fun p v hp => ?low, fun p v hp => ?high,
    fun p v hp hp' => ?elsewhere⟩
  case byte => exact State.xa_of_onlyChanges (s.onlyChanges_output8 _ v) (State.portRead8_output8_same h _ v)
  case byteElsewhere =>
    have frame := s.onlyChanges_output8 p v
    exact s.xa_congr frame.cfg (frame.ports _ (by simpa using hp.symm))
  case low =>
    subst hp
    exact State.xa_of_onlyChanges (s.onlyChanges_output16 _ v) (State.portRead8_output16_low h _ v)
  case high =>
    exact State.xa_of_onlyChanges (s.onlyChanges_output16 p v) (hp ▸ State.portRead8_output16_high h p v)
  case elsewhere =>
    have frame := s.onlyChanges_output16 p v
    exact s.xa_congr frame.cfg (frame.ports _ (by simpa using ⟨hp.symm, hp'.symm⟩))

/-! ## IN and OUT (R240 to R247) -/

section Io

variable (s : State) (p : Word)

theorem runsTo_inWord : RunsTo (.next (s.setReg16 .aw (s.portRead16 p))) s s.pc { regs := [.aw] } fun t =>
    t.reg8 .al = s.portRead8 p ∧ t.reg8 .ah = s.portRead8 (p + 1) :=
  (runsTo_setReg16 s .aw (s.portRead16 p)).imp fun t aw => by
    constructor
    · rw [State.reg8, parentOf, aw]; exact loByte_wordOf _ _
    · rw [State.reg8, parentOf, aw]; exact hiByte_wordOf _ _

variable {s} (h : s.wf = true)
include h

theorem runsTo_output8 (v : Byte) :
    RunsTo (.next (s.output8 p v)) s s.pc { ports := [p], output := [(p, v)] } fun t => t.portRead8 p = v :=
  ⟨_, rfl, s.output8_pc p v, s.onlyChanges_output8 p v, State.portRead8_output8_same h p v⟩

theorem runsTo_output16 (v : Word) : RunsTo (.next (s.output16 p v)) s s.pc
    { ports := [p, p + 1], output := [(p, loByte v), (p + 1, hiByte v)] } fun t =>
      t.portRead8 p = loByte v ∧ t.portRead8 (p + 1) = hiByte v :=
  ⟨_, rfl, s.output16_pc p v, s.onlyChanges_output16 p v, State.portRead8_output16_low h p v,
    State.portRead8_output16_high h p v⟩

end Io

/-- Settles O52: the halves of AW are AL and AH. -/
theorem inAndOutMoveThePort : Obligations.InAndOutMoveThePort := by
  intro s h
  exact ⟨fun p => ⟨runsTo_setReg8 s .al _, runsTo_inWord s (zext16 p), runsTo_output8 (zext16 p) h _,
      runsTo_output16 (zext16 p) h s.aw⟩,
    runsTo_setReg8 s .al _, runsTo_inWord s s.dw, runsTo_output8 s.dw h _, runsTo_output16 s.dw h s.aw⟩

/-! ## The bank switch (R271, R272) -/

namespace State

variable {s : State}

/-- XA_MASK has one bit (00_scope.md R6). -/
theorem exists_xaMask_eq_twoPow (h : s.wf = true) : ∃ k, s.cfg.xaMask = BitVec.twoPow 8 k ∧ k < 8 := by
  obtain ⟨-, -, -, -, cfg⟩ := s.wf_iff.mp h
  simp only [Config.wf, List.contains_iff_mem, List.mem_cons, List.not_mem_nil, or_false] at cfg
  rcases cfg with m | m | m | m | m | m | m | m
  · exact ⟨0, m, by decide⟩
  · exact ⟨1, m, by decide⟩
  · exact ⟨2, m, by decide⟩
  · exact ⟨3, m, by decide⟩
  · exact ⟨4, m, by decide⟩
  · exact ⟨5, m, by decide⟩
  · exact ⟨6, m, by decide⟩
  · exact ⟨7, m, by decide⟩

theorem portRead8_flipXa (h : s.wf = true) :
    s.flipXa.portRead8 s.cfg.xaPort = s.portRead8 s.cfg.xaPort ^^^ s.cfg.xaMask := by
  obtain ⟨-, -, ⟨ports, -⟩, -⟩ := s.wf_iff.mp h
  exact portRead8_portWrite8_same s ports _ _

theorem onlyChanges_flipXa (s : State) : OnlyChanges { ports := [s.cfg.xaPort] } s s.flipXa :=
  s.onlyChanges_portWrite8 _ _

theorem xa_flipXa (h : s.wf = true) : s.flipXa.xa = !s.xa := by
  obtain ⟨k, mask, hk⟩ := exists_xaMask_eq_twoPow h
  have one : (BitVec.twoPow 8 k).getLsbD k = true := by simp [hk]
  have nonzero : BitVec.twoPow 8 k ≠ 0 := fun zero => by simp [zero] at one
  have cfg : s.flipXa.cfg = s.cfg := s.onlyChanges_flipXa.cfg
  rw [xa, xa, cfg, portRead8_flipXa h, mask, BitVec.and_twoPow, BitVec.and_twoPow, BitVec.getLsbD_xor, one]
  cases (s.portRead8 s.cfg.xaPort).getLsbD k <;> simpa using nonzero

end State

/-- Settles O56: the vector lies below 0x400, where the bank select alone decides. -/
theorem bankSwitchJumpsThroughTheVector : Obligations.BankSwitchJumpsThroughTheVector := by
  intro s h n i hi bank v
  have exec_eq : exec i s = vectorJump n s := by rcases hi with rfl | rfl <;> rfl
  have read (k : Nat) (hk : k < 4) : s.physRead (v + k) = s.cell (bank, v + k) := by
    have low : v + k < 0xA0000 := by have := n.isLt; omega
    rw [s.physRead_eq_cell]
    simp [bank, low, s.selectsExtended_iff]
  refine ⟨_, exec_eq, ?pc, s.onlyChanges_flipXa.trans (State.onlyChanges_farJump _ _ _), ?ps, ?xa, ?port⟩
  case pc => exact congrArg₂ wordOf (read 1 (by decide)) (read 0 (by decide))
  case ps => exact congrArg₂ wordOf (read 3 (by decide)) (read 2 (by decide))
  case xa => rw [State.farJump, State.xa_setPc, State.xa_setSReg, State.xa_flipXa h]
  case port => rw [State.farJump, State.portRead8_setPc, State.portRead8_setSReg, State.portRead8_flipXa h]

/-! ## The resolver and the data segment (30_encoding.md R72 to R74; 20_memory.md R44) -/

theorem State.resolve_cases {ρ : Type} (s : State) (rm : RM ρ) :
    (∃ r, rm = .reg r) ∨ ∃ off, resolve s rm = .mem s.dataSeg off := by
  cases rm with
  | reg r => exact .inl ⟨r, rfl⟩
  | mem | direct | mem8 | mem16 => exact .inr ⟨_, rfl⟩

theorem ofNat_mod_word (n : Nat) : BitVec.ofNat 16 (n % 0x10000) = BitVec.ofNat 16 n :=
  BitVec.eq_of_toNat_eq (by simp)

theorem ofInt_mod_word (n : Int) : BitVec.ofInt 16 (n % 0x10000) = BitVec.ofInt 16 n :=
  BitVec.eq_of_toInt_eq (by rw [BitVec.toInt_ofInt, BitVec.toInt_ofInt]; exact Int.emod_bmod n 65536)

/-- Settles O34: the base sum is the sum of the registers modulo 2^16. -/
theorem resolverOffsets : Obligations.ResolverOffsets := by
  intro s
  refine ⟨fun _ => rfl, fun _ => rfl, fun _ => rfl, fun b base bwIx bwIy bpIx bpIy ix iy bp bw => ?_,
    fun _ => rfl, fun _ => rfl, fun _ _ => rfl, fun _ _ => rfl⟩
  have sum : s.baseSum b = BitVec.ofNat 16 base := by
    cases b
    case bwIx => simp [bwIx rfl, State.baseSum, BitVec.ofNat_add]
    case bwIy => simp [bwIy rfl, State.baseSum, BitVec.ofNat_add]
    case bpIx => simp [bpIx rfl, State.baseSum, BitVec.ofNat_add]
    case bpIy => simp [bpIy rfl, State.baseSum, BitVec.ofNat_add]
    case ix => simp [ix rfl, State.baseSum]
    case iy => simp [iy rfl, State.baseSum]
    case bp => simp [bp rfl, State.baseSum]
    case bw => simp [bw rfl, State.baseSum]
  simp only [ofNat_mod_word, ofInt_mod_word, resolve, sum]
  refine ⟨trivial, fun d => ?disp8, fun d => ?disp16⟩
  case disp8 =>
    rw [BitVec.ofInt_add, BitVec.ofInt_natCast, sext16, ← BitVec.toInt_signExtend_of_le (show 8 ≤ 16 by decide),
      BitVec.ofInt_toInt]
  case disp16 => simp [BitVec.ofNat_add]

/-- Settles O35: the segment of an operand is `dataSeg`, and stack and fetch name theirs. -/
theorem dataSegmentFollowsTheLatch : Obligations.DataSegmentFollowsTheLatch := by
  intro s
  have latched (o : Option SReg) (r : SReg) (hr : o.getD .ds0 = r) (latch : s.segOverride = o) :
      s.dataSeg = s.sreg r := by
    rw [State.dataSeg, latch, hr]
  refine ⟨latched none .ds0 rfl, latched _ .ds0 rfl, latched _ .ds1 rfl, latched _ .ps rfl, latched _ .ss rfl,
    s.resolve_cases, s.resolve_cases, fun o => ⟨?pop, ?fetch⟩, fun o v => s.push16_setSegOverride o v⟩
  case pop => rw [State.pop16, State.memRead16_setSegOverride, State.setReg16_setSegOverride]; rfl
  case fetch => simp [State.codeBytes]

end Sys2Proof.Machine

/-! PROOFS. The block instructions and REP (44_block_and_rep.md R180 to R186, R189): what one transfer changes and
where it moves IX and IY, and the same for `n` rounds, by induction on `n`. -/

namespace Sys2Proof.Machine

/-! ## One transfer (R181 to R185) -/

/-- The cells a transfer of `w` bytes to DS1:IY reaches. -/
def State.storeCells (s : State) (w : Nat) : List ByteCell :=
  (List.range w).map fun j => s.cellAt s.ds1 (s.iy + BitVec.ofNat 16 j)

theorem State.storeCells_one (s : State) : s.storeCells 1 = [s.cellAt s.ds1 s.iy] := by simp [storeCells]

theorem State.storeCells_two (s : State) : s.storeCells 2 = [s.cellAt s.ds1 s.iy, s.cellAt s.ds1 (s.iy + 1)] := by
  simp [storeCells, List.range_succ]

/-- A transfer moves the index registers `idx` by `delta` of its width `w` and leaves PC, PSW and CW. -/
structure Transfer (body : State → State) (w : Word) (idx : List Reg16) : Prop where
  pc (s) : (body s).pc = s.pc
  psw (s) : (body s).psw = s.psw
  cw (s) : (body s).cw = s.cw
  moved (s) : ∀ r ∈ idx, (body s).reg16 r = s.reg16 r + delta s w

theorem delta_congr {s t : State} (h : t.psw = s.psw) (w : Word) : delta t w = delta s w := by
  rw [delta, delta, State.flag, State.flag, h]

section Moves

variable {s t : State} (w : Word)

theorem moveIx_eq (hpsw : t.psw = s.psw) (hix : t.ix = s.ix) : moveIx t w = t.setReg16 .ix (s.ix + delta s w) := by
  rw [moveIx, hix, delta_congr hpsw]

theorem moveIy_eq (hpsw : t.psw = s.psw) (hiy : t.iy = s.iy) : moveIy t w = t.setReg16 .iy (s.iy + delta s w) := by
  rw [moveIy, hiy, delta_congr hpsw]

theorem moveIy_moveIx_eq (hpsw : t.psw = s.psw) (hix : t.ix = s.ix) (hiy : t.iy = s.iy) :
    moveIy (moveIx t w) w = (t.setReg16 .ix (s.ix + delta s w)).setReg16 .iy (s.iy + delta s w) := by
  rw [moveIx_eq w hpsw hix, moveIy_eq (s := s) w (by simpa using hpsw) (by simpa using hiy)]

end Moves

namespace State

variable (s : State)

@[simp] theorem output8_psw (p : Word) (v : Byte) : (s.output8 p v).psw = s.psw := by simp [output8, portWrite8]
@[simp] theorem output16_psw (p v : Word) : (s.output16 p v).psw = s.psw := by simp [output16]
@[simp] theorem reg16_output8 (p : Word) (v : Byte) (r : Reg16) : (s.output8 p v).reg16 r = s.reg16 r :=
  (s.onlyChanges_output8 p v).regs r nofun nofun
@[simp] theorem reg16_output16 (p v : Word) (r : Reg16) : (s.output16 p v).reg16 r = s.reg16 r :=
  (s.onlyChanges_output16 p v).regs r nofun nofun

end State

/-! Each transfer as a store or load followed by the moves, from the state before it. -/

section Bodies

variable (s : State)

theorem movbk8_eq : movbk8 s = ((s.memWrite8 s.ds1 s.iy (s.memRead8 s.dataSeg s.ix)).setReg16 .ix
    (s.ix + delta s 1)).setReg16 .iy (s.iy + delta s 1) :=
  moveIy_moveIx_eq 1 (s.memWrite8_psw _ _ _) (s.reg16_memWrite8 _ _ _ .ix) (s.reg16_memWrite8 _ _ _ .iy)

theorem movbk16_eq : movbk16 s = ((s.memWrite16 s.ds1 s.iy (s.memRead16 s.dataSeg s.ix)).setReg16 .ix
    (s.ix + delta s 2)).setReg16 .iy (s.iy + delta s 2) :=
  moveIy_moveIx_eq 2 (s.memWrite16_psw _ _ _) (s.reg16_memWrite16 _ _ _ .ix) (s.reg16_memWrite16 _ _ _ .iy)

/-- STM and INM, byte. -/
theorem moveIy_memWrite8 (v : Byte) :
    moveIy (s.memWrite8 s.ds1 s.iy v) 1 = (s.memWrite8 s.ds1 s.iy v).setReg16 .iy (s.iy + delta s 1) :=
  moveIy_eq 1 (s.memWrite8_psw _ _ _) (s.reg16_memWrite8 _ _ _ .iy)

/-- STM and INM, word. -/
theorem moveIy_memWrite16 (v : Word) :
    moveIy (s.memWrite16 s.ds1 s.iy v) 2 = (s.memWrite16 s.ds1 s.iy v).setReg16 .iy (s.iy + delta s 2) :=
  moveIy_eq 2 (s.memWrite16_psw _ _ _) (s.reg16_memWrite16 _ _ _ .iy)

theorem ldm8_eq : ldm8 s = (s.setReg8 .al (s.memRead8 s.dataSeg s.ix)).setReg16 .ix (s.ix + delta s 1) :=
  moveIx_eq 1 (s.setReg8_psw _ _) (s.reg16_setReg8 .al _ (q := .ix) (by decide))

theorem ldm16_eq : ldm16 s = (s.setReg16 .aw (s.memRead16 s.dataSeg s.ix)).setReg16 .ix (s.ix + delta s 2) :=
  moveIx_eq 2 (s.setReg16_psw _ _) rfl

theorem outm8_eq : outm8 s = (s.output8 s.dw (s.memRead8 s.dataSeg s.ix)).setReg16 .ix (s.ix + delta s 1) :=
  moveIx_eq 1 (s.output8_psw _ _) (s.reg16_output8 _ _ .ix)

theorem outm16_eq : outm16 s = (s.output16 s.dw (s.memRead16 s.dataSeg s.ix)).setReg16 .ix (s.ix + delta s 2) :=
  moveIx_eq 2 (s.output16_psw _ _) (s.reg16_output16 _ _ .ix)

end Bodies

/-! What each transfer moves and leaves. -/

theorem transfer_movbk8 : Transfer movbk8 1 [.ix, .iy] where
  pc s := by simp [movbk8_eq]
  psw s := by simp [movbk8_eq]
  cw s := by simpa [movbk8_eq] using s.reg16_memWrite8 _ _ _ .cw
  moved s := by simp [movbk8_eq]

theorem transfer_movbk16 : Transfer movbk16 2 [.ix, .iy] where
  pc s := by simp [movbk16_eq]
  psw s := by simp [movbk16_eq]
  cw s := by simpa [movbk16_eq] using s.reg16_memWrite16 _ _ _ .cw
  moved s := by simp [movbk16_eq]

/-- STM and INM, byte: the value stored depends on the state. -/
theorem transfer_store8 {body : State → State} {v : State → Byte}
    (hbody : ∀ s, body s = (s.memWrite8 s.ds1 s.iy (v s)).setReg16 .iy (s.iy + delta s 1)) :
    Transfer body 1 [.iy] where
  pc s := by simp [hbody]
  psw s := by simp [hbody]
  cw s := by simpa [hbody] using s.reg16_memWrite8 _ _ _ .cw
  moved s := by simp [hbody]

theorem transfer_store16 {body : State → State} {v : State → Word}
    (hbody : ∀ s, body s = (s.memWrite16 s.ds1 s.iy (v s)).setReg16 .iy (s.iy + delta s 2)) :
    Transfer body 2 [.iy] where
  pc s := by simp [hbody]
  psw s := by simp [hbody]
  cw s := by simpa [hbody] using s.reg16_memWrite16 _ _ _ .cw
  moved s := by simp [hbody]

theorem transfer_ldm8 : Transfer ldm8 1 [.ix] where
  pc s := by simp [ldm8_eq]
  psw s := by simp [ldm8_eq]
  cw s := by simp [ldm8_eq, State.setReg8, parentOf]
  moved s := by simp [ldm8_eq]

theorem transfer_ldm16 : Transfer ldm16 2 [.ix] where
  pc s := by simp [ldm16_eq]
  psw s := by simp [ldm16_eq]
  cw s := by simp [ldm16_eq]
  moved s := by simp [ldm16_eq]

theorem transfer_outm8 : Transfer outm8 1 [.ix] where
  pc s := by simp [outm8_eq, s.output8_pc]
  psw s := by simp [outm8_eq]
  cw s := by simpa [outm8_eq] using s.reg16_output8 _ _ .cw
  moved s := by simp [outm8_eq]

theorem transfer_outm16 : Transfer outm16 2 [.ix] where
  pc s := by simp [outm16_eq, s.output16_pc]
  psw s := by simp [outm16_eq]
  cw s := by simpa [outm16_eq] using s.reg16_output16 _ _ .cw
  moved s := by simp [outm16_eq]

theorem transfer_stm8 : Transfer stm8 1 [.iy] := transfer_store8 (moveIy_memWrite8 · _)
theorem transfer_stm16 : Transfer stm16 2 [.iy] := transfer_store16 (moveIy_memWrite16 · _)
theorem transfer_inm8 : Transfer inm8 1 [.iy] := transfer_store8 (moveIy_memWrite8 · _)
theorem transfer_inm16 : Transfer inm16 2 [.iy] := transfer_store16 (moveIy_memWrite16 · _)

section Frames

variable (s : State)

theorem onlyChanges_movbk8 : OnlyChanges { regs := [.ix, .iy], cells := s.storeCells 1 } s (movbk8 s) := by
  rw [movbk8_eq, s.storeCells_one]
  exact ((s.onlyChanges_memWrite8 _ _ _).trans (State.onlyChanges_setReg16 _ .ix _)).trans
    (State.onlyChanges_setReg16 _ .iy _)

theorem onlyChanges_movbk16 : OnlyChanges { regs := [.ix, .iy], cells := s.storeCells 2 } s (movbk16 s) := by
  rw [movbk16_eq, s.storeCells_two]
  exact ((s.onlyChanges_memWrite16 _ _ _).trans (State.onlyChanges_setReg16 _ .ix _)).trans
    (State.onlyChanges_setReg16 _ .iy _)

theorem onlyChanges_store8 (v : Byte) :
    OnlyChanges { regs := [.iy], cells := s.storeCells 1 } s (moveIy (s.memWrite8 s.ds1 s.iy v) 1) := by
  rw [moveIy_memWrite8, s.storeCells_one]
  exact (s.onlyChanges_memWrite8 _ _ _).trans (State.onlyChanges_setReg16 _ .iy _)

theorem onlyChanges_store16 (v : Word) :
    OnlyChanges { regs := [.iy], cells := s.storeCells 2 } s (moveIy (s.memWrite16 s.ds1 s.iy v) 2) := by
  rw [moveIy_memWrite16, s.storeCells_two]
  exact (s.onlyChanges_memWrite16 _ _ _).trans (State.onlyChanges_setReg16 _ .iy _)

theorem onlyChanges_ldm8 : OnlyChanges { regs := [.ix], halves := [.al] } s (ldm8 s) := by
  rw [ldm8_eq]
  exact (s.onlyChanges_setReg8 .al _).trans (State.onlyChanges_setReg16 _ .ix _)

theorem onlyChanges_ldm16 : OnlyChanges { regs := [.aw, .ix] } s (ldm16 s) := by
  rw [ldm16_eq]
  exact (s.onlyChanges_setReg16 .aw _).trans (State.onlyChanges_setReg16 _ .ix _)

theorem onlyChanges_outm8 : OnlyChanges
    { regs := [.ix], ports := [s.dw], output := [(s.dw, s.memRead8 s.dataSeg s.ix)] } s (outm8 s) := by
  rw [outm8_eq]
  exact (s.onlyChanges_output8 s.dw _).trans (State.onlyChanges_setReg16 _ .ix _)

theorem onlyChanges_outm16 : OnlyChanges { regs := [.ix], ports := [s.dw, s.dw + 1], output :=
    [(s.dw, s.memRead8 s.dataSeg s.ix), (s.dw + 1, s.memRead8 s.dataSeg (s.ix + 1))] } s (outm16 s) := by
  have output := s.onlyChanges_output16 s.dw (s.memRead16 s.dataSeg s.ix)
  rw [State.memRead16, loByte_wordOf, hiByte_wordOf] at output
  rw [outm16_eq, State.memRead16]
  exact output.trans (State.onlyChanges_setReg16 _ .ix _)

end Frames

theorem delta_one (s : State) : delta s 1 = if s.flag .dir = true then -1 else 1 := rfl

theorem delta_two (s : State) : delta s 2 = 2 * delta s 1 := by
  rw [delta, delta]
  split <;> rfl

/-- Settles O46: each transfer's frame, its moves and what its store or load reads back. -/
theorem blockInstructionsTransferOnce : Obligations.BlockInstructionsTransferOnce := by
  intro s h
  simp only [← delta_one, ← delta_two, ← s.storeCells_one, ← s.storeCells_two]
  have byte {v : Byte} : (moveIy (s.memWrite8 s.ds1 s.iy v) 1).memRead8 s.ds1 s.iy = v := by
    rw [moveIy, State.memRead8_setReg16, State.memRead8_memWrite8_same h]
  have word {v : Word} : (moveIy (s.memWrite16 s.ds1 s.iy v) 2).memRead16 s.ds1 s.iy = v := by
    rw [moveIy, State.memRead16_setReg16, State.memRead16_memWrite16_same h]
  refine ⟨⟨_, rfl, transfer_movbk8.pc s, onlyChanges_movbk8 s, ?movbk8, transfer_movbk8.moved s .ix (by decide),
      transfer_movbk8.moved s .iy (by decide)⟩,
    ⟨_, rfl, transfer_movbk16.pc s, onlyChanges_movbk16 s, ?movbk16, transfer_movbk16.moved s .ix (by decide),
      transfer_movbk16.moved s .iy (by decide)⟩,
    ⟨_, rfl, transfer_stm8.pc s, onlyChanges_store8 s _, byte, transfer_stm8.moved s .iy (by decide)⟩,
    ⟨_, rfl, transfer_stm16.pc s, onlyChanges_store16 s _, word, transfer_stm16.moved s .iy (by decide)⟩,
    ⟨_, rfl, transfer_ldm8.pc s, onlyChanges_ldm8 s, ?ldm8, transfer_ldm8.moved s .ix (by decide)⟩,
    ⟨_, rfl, transfer_ldm16.pc s, onlyChanges_ldm16 s, ?ldm16, transfer_ldm16.moved s .ix (by decide)⟩,
    ⟨_, rfl, transfer_outm8.pc s, onlyChanges_outm8 s, ?outm8, transfer_outm8.moved s .ix (by decide)⟩,
    ⟨_, rfl, transfer_outm16.pc s, onlyChanges_outm16 s, ?outm16, transfer_outm16.moved s .ix (by decide)⟩,
    ⟨_, rfl, transfer_inm8.pc s, onlyChanges_store8 s _, byte, transfer_inm8.moved s .iy (by decide)⟩,
    ⟨_, rfl, transfer_inm16.pc s, onlyChanges_store16 s _, word, transfer_inm16.moved s .iy (by decide)⟩⟩
  case movbk8 => simp [movbk8_eq, State.memRead8_memWrite8_same h]
  case movbk16 => simp [movbk16_eq, State.memRead16_memWrite16_same h]
  case ldm8 => rw [ldm8_eq, State.reg8_setReg16 _ _ _ (by decide), State.reg8_setReg8_same]
  case ldm16 => simp [ldm16_eq]
  case outm8 => simp [outm8_eq, State.portRead8_output8_same h]
  case outm16 => simp [outm16_eq, State.portRead16_output16_same h]

/-! ## REP (R186, R189) -/

/-- One round of REP: a transfer, then CW decremented. -/
def repRound (body : State → State) (s : State) : State := (body s).setReg16 .cw ((body s).cw - 1)

theorem repeatBody_succ (body : State → State) (n : Nat) (s : State) :
    repeatBody body (n + 1) s = repeatBody body n (repRound body s) := rfl

theorem transfers_repeatBody {i : Instr} {body : State → State} (exec_eq : ∀ u, exec i u = .next (body u)) (n : Nat) :
    ∀ s, Transfers i n s (repeatBody body n s) := by
  induction n with
  | zero => exact .done
  | succ n ih => exact fun s => .round (exec_eq s) (ih _)

theorem repLoop_of_cw_eq_zero {s : State} (body : State → State) (h : s.cw = 0) : repLoop body s = s := by
  rw [repLoop, h]; rfl

namespace Transfer

variable {body : State → State} {w : Word} {idx : List Reg16} (T : Transfer body w idx) (s : State)
include T

theorem repRound_pc : (repRound body s).pc = s.pc := by rw [repRound, State.setReg16_pc, T.pc]
theorem repRound_psw : (repRound body s).psw = s.psw := by rw [repRound, State.setReg16_psw, T.psw]
theorem repRound_cw : (repRound body s).cw = s.cw - 1 := by rw [repRound, T.cw]; rfl

theorem repRound_moved {r : Reg16} (hr : r ∈ idx) (hcw : r ≠ .cw) :
    (repRound body s).reg16 r = s.reg16 r + delta s w := by
  rw [repRound, State.reg16_setReg16, if_neg hcw, T.moved s r hr]

theorem repeatBody_pc (n : Nat) : ∀ s, (repeatBody body n s).pc = s.pc := by
  induction n with
  | zero => exact fun _ => rfl
  | succ n ih => intro s; rw [repeatBody_succ, ih, T.repRound_pc]

theorem repeatBody_cw (n : Nat) : ∀ s, (repeatBody body n s).cw = s.cw - BitVec.ofNat 16 n := by
  induction n with
  | zero => intro s; simp [repeatBody]
  | succ n ih =>
    intro s
    rw [repeatBody_succ, ih, T.repRound_cw, BitVec.ofNat_add]
    bv_omega

theorem repeatBody_moved {r : Reg16} (hr : r ∈ idx) (hcw : r ≠ .cw) (n : Nat) :
    ∀ s, (repeatBody body n s).reg16 r = s.reg16 r + BitVec.ofNat 16 n * delta s w := by
  induction n with
  | zero => intro s; simp [repeatBody]
  | succ n ih =>
    intro s
    rw [repeatBody_succ, ih, T.repRound_moved s hr hcw, delta_congr (T.repRound_psw s), BitVec.ofNat_add,
      BitVec.add_mul, BitVec.one_mul, BitVec.add_assoc, BitVec.add_comm (delta s w)]

theorem repLoop_pc : (repLoop body s).pc = s.pc := T.repeatBody_pc _ s

theorem repLoop_cw : (repLoop body s).cw = 0 := by
  rw [repLoop, T.repeatBody_cw]; simp

theorem repLoop_moved {r : Reg16} (hr : r ∈ idx) (hcw : r ≠ .cw) :
    (repLoop body s).reg16 r = s.reg16 r + s.cw * delta s w := by
  rw [repLoop, T.repeatBody_moved hr hcw, BitVec.ofNat_toNat, BitVec.setWidth_eq]

end Transfer

/-! The frame of `n` rounds, for loads, stores and outputs. -/

theorem OnlyChanges.repRound {body : State → State} {c : Changes} {s : State} (h : OnlyChanges c s (body s)) :
    OnlyChanges (c.append { regs := [.cw] }) s (repRound body s) :=
  h.trans (State.onlyChanges_setReg16 _ .cw _)

theorem onlyChanges_repeatBody_load {body : State → State} {regs : List Reg16} {halves : List Reg8}
    (frame : ∀ s, OnlyChanges { regs := regs, halves := halves } s (body s)) (n : Nat) :
    ∀ s, OnlyChanges { regs := .cw :: regs, halves := halves } s (repeatBody body n s) := by
  induction n with
  | zero => exact fun s => (OnlyChanges.refl s).mono nofun nofun nofun nofun nofun nofun nofun rfl
  | succ n ih =>
    intro s
    refine ((frame s).repRound.trans (ih _)).mono ?_ ?_ nofun nofun nofun nofun nofun rfl
    · simp [Changes.append]
    · simp +contextual [Changes.append]

theorem State.cellAt_congr {s t : State} (h : t.xa = s.xa) (seg off : Word) : t.cellAt seg off = s.cellAt seg off := by
  rw [cellAt, cellAt, selectsExtended, selectsExtended, h]

/-- The first transfer's cells and those of the others, which start one move later. -/
theorem State.repCells_succ {s t : State} {w : Nat} (xa : t.xa = s.xa) (ds1 : t.ds1 = s.ds1) (psw : t.psw = s.psw)
    (iy : t.iy = s.iy + delta s (BitVec.ofNat 16 w)) (n : Nat) :
    s.repCells w (n + 1) = s.storeCells w ++ t.repCells w n := by
  have shift (k : Nat) (d : Word) : s.iy + BitVec.ofNat 16 (k + 1) * d = s.iy + d + BitVec.ofNat 16 k * d := by
    rw [BitVec.ofNat_add, BitVec.add_mul, BitVec.one_mul, BitVec.add_comm (_ * d), BitVec.add_assoc]
  simp [repCells, storeCells, List.range_succ_eq_map, List.flatMap_map, cellAt_congr xa, ds1, delta_congr psw, iy,
    shift]

theorem onlyChanges_repeatBody_store {body : State → State} {w : Nat} {idx : List Reg16}
    (T : Transfer body (BitVec.ofNat 16 w) idx) (hiy : .iy ∈ idx)
    (frame : ∀ s, OnlyChanges { regs := idx, cells := s.storeCells w } s (body s)) (n : Nat) :
    ∀ s, OnlyChanges { regs := .cw :: idx, cells := s.repCells w n } s (repeatBody body n s) := by
  induction n with
  | zero => exact fun s => (OnlyChanges.refl s).mono nofun nofun nofun nofun nofun nofun nofun rfl
  | succ n ih =>
    intro s
    have round := (frame s).repRound
    have cells := State.repCells_succ (s.xa_congr round.cfg (round.ports _ nofun)) (round.sregs .ds1 nofun)
      (T.repRound_psw s) (T.repRound_moved s hiy (by decide)) n
    refine (round.trans (ih _)).mono ?_ nofun nofun nofun nofun ?_ nofun rfl
    · simp [Changes.append]
    · simp [Changes.append, cells]

/-- The outputs of `n` rounds: `k` entries a round, all to the ports of a round, and no other port changed. -/
theorem onlyChanges_repeatBody_output {body : State → State} {ports : State → List Word}
    {out : State → List (Word × Byte)} {k : Nat} (len : ∀ s, (out s).length = k) (mem : ∀ s, ∀ e ∈ out s, e.1 ∈ ports s)
    (same : ∀ s, ports (repRound body s) = ports s)
    (frame : ∀ s, OnlyChanges { regs := [.ix], ports := (out s).map Prod.fst, output := out s } s (body s)) (n : Nat) :
    ∀ s, ∃ o, o.length = k * n ∧ (∀ e ∈ o, e.1 ∈ ports s) ∧
      OnlyChanges { regs := [.cw, .ix], ports := o.map Prod.fst, output := o } s (repeatBody body n s) := by
  induction n with
  | zero =>
    exact fun s => ⟨[], rfl, nofun, (OnlyChanges.refl s).mono nofun nofun nofun nofun nofun nofun nofun rfl⟩
  | succ n ih =>
    intro s
    obtain ⟨o, length, toPorts, rest⟩ := ih (repRound body s)
    rw [same] at toPorts
    refine ⟨out s ++ o, ?_, ?_, ((frame s).repRound.trans rest).mono ?_ nofun nofun nofun nofun nofun ?_ ?_⟩
    · rw [List.length_append, len, length, Nat.mul_succ, Nat.add_comm]
    · intro e he
      exact (List.mem_append.mp he).elim (mem s e) (toPorts e)
    all_goals simp [Changes.append]

/-- An output stays among the ports its entries name. -/
theorem OnlyChanges.ports_of_output {regs : List Reg16} {ports : List Word} {o : List (Word × Byte)} {s t : State}
    (h : OnlyChanges { regs := regs, ports := o.map Prod.fst, output := o } s t) (mem : ∀ e ∈ o, e.1 ∈ ports) :
    OnlyChanges { regs := regs, ports := ports, output := o } s t := by
  refine h.mono (fun _ => id) nofun nofun nofun nofun nofun (fun p hp => ?_) rfl
  obtain ⟨e, he, rfl⟩ := List.mem_map.mp hp
  exact mem e he

theorem dw_repRound {body : State → State} {c : Changes} {s : State} (h : OnlyChanges c s (body s))
    (regs : c.regs = [.ix]) (halves : c.halves = []) : (repRound body s).dw = s.dw :=
  (State.reg16_setReg16 _ _ _ .dw).trans (h.regs .dw (by rw [regs]; decide) (by rw [halves]; exact nofun))

section RepFrames

variable (s : State)

theorem onlyChanges_repLoop_movbk8 : OnlyChanges
    { regs := [.cw, .ix, .iy], cells := s.repCells 1 s.cw.toNat } s (repLoop movbk8 s) :=
  onlyChanges_repeatBody_store transfer_movbk8 (by decide) onlyChanges_movbk8 _ s

theorem onlyChanges_repLoop_movbk16 : OnlyChanges
    { regs := [.cw, .ix, .iy], cells := s.repCells 2 s.cw.toNat } s (repLoop movbk16 s) :=
  onlyChanges_repeatBody_store transfer_movbk16 (by decide) onlyChanges_movbk16 _ s

theorem onlyChanges_repLoop_stm8 : OnlyChanges
    { regs := [.cw, .iy], cells := s.repCells 1 s.cw.toNat } s (repLoop stm8 s) :=
  onlyChanges_repeatBody_store transfer_stm8 (by decide) (onlyChanges_store8 · _) _ s

theorem onlyChanges_repLoop_stm16 : OnlyChanges
    { regs := [.cw, .iy], cells := s.repCells 2 s.cw.toNat } s (repLoop stm16 s) :=
  onlyChanges_repeatBody_store transfer_stm16 (by decide) (onlyChanges_store16 · _) _ s

theorem onlyChanges_repLoop_inm8 : OnlyChanges
    { regs := [.cw, .iy], cells := s.repCells 1 s.cw.toNat } s (repLoop inm8 s) :=
  onlyChanges_repeatBody_store transfer_inm8 (by decide) (onlyChanges_store8 · _) _ s

theorem onlyChanges_repLoop_inm16 : OnlyChanges
    { regs := [.cw, .iy], cells := s.repCells 2 s.cw.toNat } s (repLoop inm16 s) :=
  onlyChanges_repeatBody_store transfer_inm16 (by decide) (onlyChanges_store16 · _) _ s

theorem onlyChanges_repLoop_ldm8 : OnlyChanges { halves := [.al], regs := [.cw, .ix] } s (repLoop ldm8 s) :=
  onlyChanges_repeatBody_load onlyChanges_ldm8 _ s

theorem onlyChanges_repLoop_ldm16 : OnlyChanges { regs := [.cw, .aw, .ix] } s (repLoop ldm16 s) :=
  onlyChanges_repeatBody_load onlyChanges_ldm16 _ s

theorem onlyChanges_repLoop_outm8 : ∃ o, o.length = 1 * s.cw.toNat ∧ (∀ e ∈ o, e.1 ∈ [s.dw]) ∧
    OnlyChanges { regs := [.cw, .ix], ports := o.map Prod.fst, output := o } s (repLoop outm8 s) :=
  onlyChanges_repeatBody_output (ports := fun s => [s.dw]) (out := fun s => [(s.dw, s.memRead8 s.dataSeg s.ix)])
    (fun _ => rfl) (by simp) (fun s => by rw [dw_repRound (onlyChanges_outm8 s) rfl rfl]) onlyChanges_outm8 _ s

theorem onlyChanges_repLoop_outm16 : ∃ o, o.length = 2 * s.cw.toNat ∧ (∀ e ∈ o, e.1 ∈ [s.dw, s.dw + 1]) ∧
    OnlyChanges { regs := [.cw, .ix], ports := o.map Prod.fst, output := o } s (repLoop outm16 s) :=
  onlyChanges_repeatBody_output (ports := fun s => [s.dw, s.dw + 1])
    (out := fun s => [(s.dw, s.memRead8 s.dataSeg s.ix), (s.dw + 1, s.memRead8 s.dataSeg (s.ix + 1))])
    (fun _ => rfl) (by simp) (fun s => by rw [dw_repRound (onlyChanges_outm16 s) rfl rfl]) onlyChanges_outm16 _ s

end RepFrames

/-- Settles O47: `n` rounds for `n` the value of CW on entry. -/
theorem repRepeatsTheTransfer : Obligations.RepRepeatsTheTransfer := by
  intro s
  simp only [← delta_one, ← delta_two]
  have rounds {i : Instr} {body : State → State} (exec_eq : ∀ u, exec i u = .next (body u)) :=
    transfers_repeatBody exec_eq s.cw.toNat s
  have ix {body : State → State} {w : Word} {idx : List Reg16} (T : Transfer body w idx) (hr : .ix ∈ idx) :=
    T.repLoop_moved s hr (by decide)
  have iy {body : State → State} {w : Word} {idx : List Reg16} (T : Transfer body w idx) (hr : .iy ∈ idx) :=
    T.repLoop_moved s hr (by decide)
  obtain ⟨o8, length8, ports8, frame8⟩ := onlyChanges_repLoop_outm8 s
  obtain ⟨o16, length16, ports16, frame16⟩ := onlyChanges_repLoop_outm16 s
  rw [Nat.one_mul] at length8
  refine ⟨⟨_, rfl, rounds fun _ => rfl, transfer_movbk8.repLoop_cw s, transfer_movbk8.repLoop_pc s,
      ix transfer_movbk8 (by decide), iy transfer_movbk8 (by decide), onlyChanges_repLoop_movbk8 s⟩,
    ⟨_, rfl, rounds fun _ => rfl, transfer_movbk16.repLoop_cw s, transfer_movbk16.repLoop_pc s,
      ix transfer_movbk16 (by decide), iy transfer_movbk16 (by decide), onlyChanges_repLoop_movbk16 s⟩,
    ⟨_, rfl, rounds fun _ => rfl, transfer_stm8.repLoop_cw s, transfer_stm8.repLoop_pc s,
      iy transfer_stm8 (by decide), onlyChanges_repLoop_stm8 s⟩,
    ⟨_, rfl, rounds fun _ => rfl, transfer_stm16.repLoop_cw s, transfer_stm16.repLoop_pc s,
      iy transfer_stm16 (by decide), onlyChanges_repLoop_stm16 s⟩,
    ⟨_, rfl, rounds fun _ => rfl, transfer_ldm8.repLoop_cw s, transfer_ldm8.repLoop_pc s,
      ix transfer_ldm8 (by decide), onlyChanges_repLoop_ldm8 s⟩,
    ⟨_, rfl, rounds fun _ => rfl, transfer_ldm16.repLoop_cw s, transfer_ldm16.repLoop_pc s,
      ix transfer_ldm16 (by decide), ?ldm16⟩,
    ⟨_, o8, rfl, rounds fun _ => rfl, transfer_outm8.repLoop_cw s, transfer_outm8.repLoop_pc s,
      ix transfer_outm8 (by decide), length8, ports8, frame8.ports_of_output ports8⟩,
    ⟨_, o16, rfl, rounds fun _ => rfl, transfer_outm16.repLoop_cw s, transfer_outm16.repLoop_pc s,
      ix transfer_outm16 (by decide), length16, ports16, frame16.ports_of_output ports16⟩,
    ⟨_, rfl, rounds fun _ => rfl, transfer_inm8.repLoop_cw s, transfer_inm8.repLoop_pc s,
      iy transfer_inm8 (by decide), onlyChanges_repLoop_inm8 s⟩,
    ⟨_, rfl, rounds fun _ => rfl, transfer_inm16.repLoop_cw s, transfer_inm16.repLoop_pc s,
      iy transfer_inm16 (by decide), onlyChanges_repLoop_inm16 s⟩, fun h => ?none⟩
  case ldm16 =>
    exact (onlyChanges_repLoop_ldm16 s).mono (by decide) nofun nofun nofun nofun nofun nofun rfl
  case none =>
    have same (body : State → State) : (.next (repLoop body s) : Result) = .next s := by
      rw [repLoop_of_cw_eq_zero body h]
    simp only [List.forall_mem_cons]
    exact ⟨same movbk8, same movbk16, same stm8, same stm16, same ldm8, same ldm16, same outm8, same outm16, same inm8,
      same inm16, fun _ hi => absurd hi List.not_mem_nil⟩

end Sys2Proof.Machine

/-! PROOFS. The shift and rotate group (47_shift_rotate.md R250 to R259): the closed form of `n` one-bit steps of each
operation at any width, and the forms at the two widths of the core. -/

namespace Sys2Proof.Machine

/-! ## The steps from the last one -/

/-- The state of (value, carry) after one step. -/
def shiftNext {w : Nat} (op : ShiftOp) (xc : BitVec w × Bool) : BitVec w × Bool := shiftStep op xc.1 xc.2

theorem shiftTimes_succ {w : Nat} (op : ShiftOp) (n : Nat) :
    ∀ (x : BitVec w) (c : Bool), shiftTimes op (n + 1) x c = shiftNext op (shiftTimes op n x c) := by
  induction n with
  | zero => exact fun _ _ => rfl
  | succ n ih => exact fun x c => ih _ _

/-! ## Bits of the parts -/

section Bits

variable {w : Nat}

theorem getLsbD_lowBit (b : Bool) (i : Nat) : (lowBit w b).getLsbD i = (decide (i < w) && (decide (i = 0) && b)) := by
  rw [lowBit, BitVec.getLsbD_setWidth, BitVec.getLsbD_ofBool]

theorem getLsbD_highBit (hw : 0 < w) (b : Bool) (i : Nat) :
    (highBit w b).getLsbD i = (decide (i + 1 = w) && b) := by
  rw [highBit, BitVec.getLsbD_shiftLeft, getLsbD_lowBit]
  by_cases h : i + 1 = w
  · subst h; simp
  · have : ¬ (i < w ∧ ¬ i < w - 1) := by omega
    simp only [h, decide_false, Bool.false_and]
    by_cases hi : i < w
    · simp [show i < w - 1 by omega]
    · simp [hi]

theorem succ_mod_eq_ite (hw : 0 < w) (n : Nat) : (n + 1) % w = if n % w + 1 = w then 0 else n % w + 1 := by
  have hn := Nat.mod_lt n hw
  rw [Nat.add_mod_eq_ite]
  rcases Nat.lt_or_ge 1 w with h | h
  · rw [Nat.mod_eq_of_lt h]
    split_ifs <;> omega
  · obtain rfl : w = 1 := by omega
    simp [Nat.mod_one]

theorem getLsbD_rotateLeft_eq (x : BitVec w) (r : Nat) {i : Nat} (hi : i < w) :
    (x.rotateLeft r).getLsbD i = x.getLsbD (if i < r % w then w - r % w + i else i - r % w) := by
  rw [BitVec.getLsbD_rotateLeft]
  by_cases h : i < r % w <;> simp [h, hi]

theorem getLsbD_rotateRight_eq (x : BitVec w) (r : Nat) {i : Nat} (hi : i < w) :
    (x.rotateRight r).getLsbD i = x.getLsbD (if i < w - r % w then r % w + i else i - (w - r % w)) := by
  rw [BitVec.getLsbD_rotateRight]
  by_cases h : i < w - r % w <;> simp [h, hi]

theorem rotateLeft_zero (x : BitVec w) : x.rotateLeft 0 = x :=
  BitVec.eq_of_getLsbD_eq fun i hi => by simp [getLsbD_rotateLeft_eq _ _ hi]

theorem rotateRight_zero (x : BitVec w) : x.rotateRight 0 = x :=
  BitVec.eq_of_getLsbD_eq fun i hi => by simp [hi]

theorem rotateLeft_succ (x : BitVec w) (n : Nat) : (x.rotateLeft n).rotateLeft 1 = x.rotateLeft (n + 1) := by
  apply BitVec.eq_of_getLsbD_eq
  intro i hi
  have hw : 0 < w := by omega
  have hn := Nat.mod_lt n hw
  have one := succ_mod_eq_ite hw 0
  have succ := succ_mod_eq_ite hw n
  rw [Nat.zero_mod, Nat.zero_add] at one
  rw [getLsbD_rotateLeft_eq _ _ hi, getLsbD_rotateLeft_eq _ _ (by split_ifs at * <;> omega),
    getLsbD_rotateLeft_eq _ _ hi]
  congr 1
  split_ifs at * <;> omega

theorem rotateRight_succ (x : BitVec w) (n : Nat) : (x.rotateRight n).rotateRight 1 = x.rotateRight (n + 1) := by
  apply BitVec.eq_of_getLsbD_eq
  intro i hi
  have hw : 0 < w := by omega
  have hn := Nat.mod_lt n hw
  have one := succ_mod_eq_ite hw 0
  have succ := succ_mod_eq_ite hw n
  rw [Nat.zero_mod, Nat.zero_add] at one
  rw [getLsbD_rotateRight_eq _ _ hi, getLsbD_rotateRight_eq _ _ (by split_ifs at * <;> omega),
    getLsbD_rotateRight_eq _ _ hi]
  congr 1
  split_ifs at * <;> omega

/-! ## One step as an operation on bit vectors -/

theorem rotateLeft_one_eq (hw : 0 < w) (x : BitVec w) : x.rotateLeft 1 = x <<< 1 ||| lowBit w x.msb := by
  apply BitVec.eq_of_getLsbD_eq
  intro i hi
  have one := succ_mod_eq_ite hw 0
  rw [Nat.zero_mod, Nat.zero_add] at one
  rw [getLsbD_rotateLeft_eq _ _ hi, BitVec.getLsbD_or, BitVec.getLsbD_shiftLeft, getLsbD_lowBit,
    BitVec.msb_eq_getLsbD_last]
  cases i with
  | zero =>
    have source : (if 0 < 1 % w then w - 1 % w + 0 else 0 - 1 % w) = w - 1 := by split_ifs at * <;> omega
    rw [source]
    simp [hw]
  | succ i =>
    have source : (if i + 1 < 1 % w then w - 1 % w + (i + 1) else i + 1 - 1 % w) = i := by split_ifs at * <;> omega
    simp [source, hi]

theorem rotateRight_one_eq (hw : 0 < w) (x : BitVec w) : x.rotateRight 1 = x >>> 1 ||| highBit w (x.getLsbD 0) := by
  apply BitVec.eq_of_getLsbD_eq
  intro i hi
  have one := succ_mod_eq_ite hw 0
  rw [Nat.zero_mod, Nat.zero_add] at one
  rw [getLsbD_rotateRight_eq _ _ hi, BitVec.getLsbD_or, BitVec.getLsbD_ushiftRight, getLsbD_highBit hw]
  by_cases top : i + 1 = w
  · have source : (if i < w - 1 % w then 1 % w + i else i - (w - 1 % w)) = 0 := by split_ifs at * <;> omega
    simp [source, top, BitVec.getLsbD_of_ge x (1 + i) (by omega)]
  · have source : (if i < w - 1 % w then 1 % w + i else i - (w - 1 % w)) = 1 + i := by split_ifs at * <;> omega
    simp [source, top]

theorem sshiftRight_one_eq (hw : 0 < w) (x : BitVec w) : x.sshiftRight 1 = x >>> 1 ||| highBit w x.msb := by
  apply BitVec.eq_of_getLsbD_eq
  intro i hi
  rw [BitVec.getLsbD_sshiftRight, BitVec.getLsbD_or, BitVec.getLsbD_ushiftRight, getLsbD_highBit hw]
  by_cases top : i + 1 = w
  · simp [top, show ¬ 1 + i < w by omega, show ¬ w ≤ i by omega, BitVec.getLsbD_of_ge x (1 + i) (by omega)]
  · simp [top, show 1 + i < w by omega, show ¬ w ≤ i by omega]

/-- ROLC: the carry enters below and the sign leaves above. -/
theorem append_rotateLeft_one (hw : 0 < w) (x : BitVec w) (c : Bool) :
    (BitVec.ofBool c ++ x).rotateLeft 1 = BitVec.ofBool x.msb ++ (x <<< 1 ||| lowBit w c) := by
  apply BitVec.eq_of_getLsbD_eq
  intro i hi
  have one : 1 % (1 + w) = 1 := Nat.mod_eq_of_lt (by omega)
  rw [getLsbD_rotateLeft_eq _ _ hi, one, BitVec.getLsbD_append, BitVec.getLsbD_append, BitVec.getLsbD_or,
    BitVec.getLsbD_shiftLeft, getLsbD_lowBit, BitVec.getLsbD_ofBool, BitVec.getLsbD_ofBool, BitVec.msb_eq_getLsbD_last]
  rcases Nat.lt_or_ge i w with h | h
  · cases i with
    | zero => simp [hw]
    | succ i => simp [h, show i < w by omega]
  · obtain rfl : i = w := by omega
    simp [show ¬ i < 1 by omega, show i - 1 < i by omega]

/-- RORC: the carry enters above and bit 0 leaves below. -/
theorem append_rotateRight_one (hw : 0 < w) (x : BitVec w) (c : Bool) :
    (BitVec.ofBool c ++ x).rotateRight 1 = BitVec.ofBool (x.getLsbD 0) ++ (x >>> 1 ||| highBit w c) := by
  apply BitVec.eq_of_getLsbD_eq
  intro i hi
  have one : 1 % (1 + w) = 1 := Nat.mod_eq_of_lt (by omega)
  rw [getLsbD_rotateRight_eq _ _ hi, one, BitVec.getLsbD_append, BitVec.getLsbD_append, BitVec.getLsbD_or,
    BitVec.getLsbD_ushiftRight, getLsbD_highBit hw, BitVec.getLsbD_ofBool, BitVec.getLsbD_ofBool]
  rcases Nat.lt_or_ge i w with h | h
  · by_cases top : i + 1 = w
    · simp [top, h, show ¬ 1 + i < w by omega, show 1 + i - w = 0 by omega, BitVec.getLsbD_of_ge x (1 + i) (by omega)]
    · simp [top, h, show 1 + i < w by omega]
  · obtain rfl : i = w := by omega
    simp [hw]

/-! ## `n` steps (R251 to R257) -/

variable (hw : 0 < w) (x : BitVec w) (c : Bool)
include hw

theorem rol_value (n : Nat) : (shiftTimes .rol n x c).1 = x.rotateLeft n := by
  induction n with
  | zero => exact (rotateLeft_zero _).symm
  | succ n ih =>
    rw [shiftTimes_succ, ← rotateLeft_succ, ← ih, rotateLeft_one_eq hw]
    rfl

theorem ror_value (n : Nat) : (shiftTimes .ror n x c).1 = x.rotateRight n := by
  induction n with
  | zero => exact (rotateRight_zero _).symm
  | succ n ih =>
    rw [shiftTimes_succ, ← rotateRight_succ, ← ih, rotateRight_one_eq hw]
    rfl

theorem rolc_value (n : Nat) : BitVec.ofBool (shiftTimes .rolc n x c).2 ++ (shiftTimes .rolc n x c).1 =
    (BitVec.ofBool c ++ x).rotateLeft n := by
  induction n with
  | zero => exact (rotateLeft_zero _).symm
  | succ n ih =>
    rw [shiftTimes_succ, ← rotateLeft_succ, ← ih, append_rotateLeft_one hw]
    rfl

theorem rorc_value (n : Nat) : BitVec.ofBool (shiftTimes .rorc n x c).2 ++ (shiftTimes .rorc n x c).1 =
    (BitVec.ofBool c ++ x).rotateRight n := by
  induction n with
  | zero => exact (rotateRight_zero _).symm
  | succ n ih =>
    rw [shiftTimes_succ, ← rotateRight_succ, ← ih, append_rotateRight_one hw]
    rfl

theorem shra_value (n : Nat) : (shiftTimes .shra n x c).1 = x.sshiftRight n := by
  induction n with
  | zero => simp [shiftTimes]
  | succ n ih =>
    rw [shiftTimes_succ, BitVec.sshiftRight_add, ← ih, sshiftRight_one_eq hw]
    rfl

omit hw

theorem shl_value (n : Nat) : (shiftTimes .shl n x c).1 = x <<< n := by
  induction n with
  | zero => simp [shiftTimes]
  | succ n ih =>
    rw [shiftTimes_succ, BitVec.shiftLeft_add, ← ih]
    rfl

theorem shr_value (n : Nat) : (shiftTimes .shr n x c).1 = x >>> n := by
  induction n with
  | zero => simp [shiftTimes]
  | succ n ih =>
    rw [shiftTimes_succ, BitVec.shiftRight_add, ← ih]
    rfl

/-! The bit moved out last. -/

theorem shl_carry (n : Nat) : (shiftTimes .shl (n + 1) x c).2 = (decide (n + 1 ≤ w) && x.getLsbD (w - (n + 1))) := by
  have out : (shiftTimes .shl (n + 1) x c).2 = (x <<< n).msb := by rw [shiftTimes_succ, ← shl_value x c n]; rfl
  rw [out, BitVec.msb_eq_getLsbD_last, BitVec.getLsbD_shiftLeft]
  by_cases h : n + 1 ≤ w
  · simp [h, show w - 1 < w by omega, show ¬ w - 1 < n by omega, show w - 1 - n = w - (n + 1) by omega]
  · simp only [h, decide_false, Bool.false_and]
    simp
    omega

theorem shr_carry (n : Nat) : (shiftTimes .shr (n + 1) x c).2 = x.getLsbD n := by
  have out : (shiftTimes .shr (n + 1) x c).2 = (x >>> n).getLsbD 0 := by rw [shiftTimes_succ, ← shr_value x c n]; rfl
  rw [out, BitVec.getLsbD_ushiftRight, Nat.add_zero]

include hw

theorem shra_carry (n : Nat) : (shiftTimes .shra (n + 1) x c).2 = if n + 1 < w then x.getLsbD n else x.msb := by
  have out : (shiftTimes .shra (n + 1) x c).2 = (x.sshiftRight n).getLsbD 0 := by
    rw [shiftTimes_succ, ← shra_value hw x c n]; rfl
  rw [out, BitVec.getLsbD_sshiftRight, BitVec.msb_eq_getLsbD_last]
  rcases Nat.lt_trichotomy (n + 1) w with inside | top | beyond
  · simp [inside, show n < w by omega, show ¬ w = 0 by omega]
  · subst top
    simp
  · simp [show ¬ n < w by omega, show ¬ n + 1 < w by omega, show ¬ w = 0 by omega]

theorem rol_carry (n : Nat) : (shiftTimes .rol (n + 1) x c).2 = (shiftTimes .rol (n + 1) x c).1.getLsbD 0 := by
  rw [shiftTimes_succ, shiftNext, shiftStep, BitVec.getLsbD_or, BitVec.getLsbD_shiftLeft, getLsbD_lowBit]
  simp [hw]

theorem ror_carry (n : Nat) : (shiftTimes .ror (n + 1) x c).2 = (shiftTimes .ror (n + 1) x c).1.getLsbD (w - 1) := by
  rw [shiftTimes_succ, shiftNext, shiftStep, BitVec.getLsbD_or, BitVec.getLsbD_ushiftRight, getLsbD_highBit hw]
  simp [show w - 1 + 1 = w by omega, show 1 + (w - 1) = w by omega]

end Bits

/-! ## The flags of the group (R259) -/

/-- The flags an operation of the group writes for a count of 1 or more. -/
def shiftWrites : ShiftOp → List Flag
  | .rol | .ror | .rolc | .rorc => [.cy, .v]
  | .shl | .shr | .shra => [.cy, .v, .p, .z, .s]

section GroupFlags

variable {w : Nat} (op : ShiftOp) (psw : Word) (a r : BitVec w) (cy : Bool)

theorem getLsbD_rotateFlags {i : Nat} (hcy : Flag.cy.bit ≠ i) (hv : Flag.v.bit ≠ i) :
    (rotateFlags psw a r cy).getLsbD i = psw.getLsbD i := by
  rw [rotateFlags, getLsbD_setFlag, if_neg hv.symm, getLsbD_setFlag, if_neg hcy.symm]

theorem getLsbD_groupFlags (i : Nat) (h : ∀ f ∈ shiftWrites op, f.bit ≠ i) :
    (groupFlags op psw a r cy).getLsbD i = psw.getLsbD i := by
  cases op
  case rol | ror | rolc | rorc => exact getLsbD_rotateFlags psw a r cy (h .cy (by decide)) (h .v (by decide))
  case shl | shr | shra =>
    have pzs : i ∉ [Flag.p.bit, Flag.z.bit, Flag.s.bit] := by
      simp [(h .p (by decide)).symm, (h .z (by decide)).symm, (h .s (by decide)).symm]
    rw [groupFlags, shiftFlags, getLsbD_setPZS_of_notMem _ _ pzs]
    exact getLsbD_rotateFlags psw a r cy (h .cy (by decide)) (h .v (by decide))

theorem getFlag_groupFlags_cy : getFlag (groupFlags op psw a r cy) .cy = cy := by
  cases op <;> simp [groupFlags, shiftFlags, setPZS, rotateFlags, getFlag_setFlag]

theorem getFlag_groupFlags_v : getFlag (groupFlags op psw a r cy) .v = (r.msb != a.msb) := by
  cases op <;> simp [groupFlags, shiftFlags, setPZS, rotateFlags, getFlag_setFlag, shiftOverflow]

end GroupFlags

/-! ## The operations (R250) -/

/-- A count of 0 writes nothing. -/
theorem shift8_zero (op : ShiftOp) (rm : RM8) (s : State) {n : Byte} (hn : n = 0) : shift8 op rm n s = .next s :=
  if_pos hn

theorem shift16_zero (op : ShiftOp) (rm : RM16) (s : State) {n : Byte} (hn : n = 0) : shift16 op rm n s = .next s :=
  if_pos hn

/-- Settles O55: the forms of a constant count 1 are not concerned. -/
theorem shiftCountZeroChangesNothing : Obligations.ShiftCountZeroChangesNothing := by
  intro s
  have byte (op) {rm n} (hn : n = 0) := shift8_zero op rm s hn
  have word (op) {rm n} (hn : n = 0) := shift16_zero op rm s hn
  refine ⟨?rol, ?ror, ?rolc, ?rorc, ?shl, ?shr, ?shra⟩
  case rol =>
    exact ⟨fun _ _ => byte .rol, fun _ _ => word .rol, fun _ => byte .rol, fun _ => word .rol, fun _ => byte .rol,
      fun _ => word .rol⟩
  case ror =>
    exact ⟨fun _ _ => byte .ror, fun _ _ => word .ror, fun _ => byte .ror, fun _ => word .ror, fun _ => byte .ror,
      fun _ => word .ror⟩
  case rolc =>
    exact ⟨fun _ _ => byte .rolc, fun _ _ => word .rolc, fun _ => byte .rolc, fun _ => word .rolc, fun _ => byte .rolc,
      fun _ => word .rolc⟩
  case rorc =>
    exact ⟨fun _ _ => byte .rorc, fun _ _ => word .rorc, fun _ => byte .rorc, fun _ => word .rorc, fun _ => byte .rorc,
      fun _ => word .rorc⟩
  case shl =>
    exact ⟨fun _ _ => byte .shl, fun _ _ => word .shl, fun _ => byte .shl, fun _ => word .shl, fun _ => byte .shl,
      fun _ => word .shl⟩
  case shr =>
    exact ⟨fun _ _ => byte .shr, fun _ _ => word .shr, fun _ => byte .shr, fun _ => word .shr, fun _ => byte .shr,
      fun _ => word .shr⟩
  case shra =>
    exact ⟨fun _ _ => byte .shra, fun _ _ => word .shra, fun _ => byte .shra, fun _ => word .shra, fun _ => byte .shra,
      fun _ => word .shra⟩

/-- What an operation of the group does for a count of 1 or more: the value `r` it stores and the PSW it leaves. -/
structure Shifted {w : Nat} (op : ShiftOp) (s t : State) (a r : BitVec w) (n : Nat) : Prop where
  value : r = (shiftTimes op n a (s.flag .cy)).1
  psw : t.psw = groupFlags op s.psw a r (shiftTimes op n a (s.flag .cy)).2

section Run

variable {s : State} {op : ShiftOp} (h : s.wf = true)
include h

theorem runsTo_shift8 (rm : RM8) {n : Byte} (hn : n ≠ 0) :
    RunsTo (shift8 op rm n s) s s.pc (s.changes8 (resolve s rm) (shiftWrites op)) fun t =>
      Shifted op s t (s.read8 (resolve s rm)) (t.read8 (resolve s rm)) n.toNat := by
  refine ⟨_, if_neg hn, by simp, s.onlyChanges_write8_setPsw _ _ fun i hi => ?_, ?_⟩
  · rw [State.write8_psw]
    exact getLsbD_groupFlags op s.psw _ _ _ i hi
  · constructor
    all_goals simp [State.read8_write8_same h]

theorem runsTo_shift16 (rm : RM16) {n : Byte} (hn : n ≠ 0) :
    RunsTo (shift16 op rm n s) s s.pc (s.changes16 (resolve s rm) (shiftWrites op)) fun t =>
      Shifted op s t (s.read16 (resolve s rm)) (t.read16 (resolve s rm)) n.toNat := by
  refine ⟨_, if_neg hn, by simp, s.onlyChanges_write16_setPsw _ _ fun i hi => ?_, ?_⟩
  · rw [State.write16_psw]
    exact getLsbD_groupFlags op s.psw _ _ _ i hi
  · constructor
    all_goals simp [State.read16_write16_same h]

end Run

namespace Shifted

variable {w : Nat} {s t : State} {a r : BitVec w} {n : Nat}

theorem cy {op : ShiftOp} (h : Shifted op s t a r n) : t.flag .cy = (shiftTimes op n a (s.flag .cy)).2 := by
  rw [State.flag, h.psw, getFlag_groupFlags_cy]

theorem v {op : ShiftOp} (h : Shifted op s t a r n) : t.flag .v = true ↔ r.msb ≠ a.msb := by
  rw [State.flag, h.psw, getFlag_groupFlags_v, bne_iff_ne]

theorem pzsOf {op : ShiftOp} (h : Shifted op s t a r n) (hop : op = .shl ∨ op = .shr ∨ op = .shra) : PZSOf t r :=
  pzsOf_of_getFlag (psw := rotateFlags s.psw a r (shiftTimes op n a (s.flag .cy)).2) fun f _ => by
    rw [State.flag, h.psw]
    rcases hop with rfl | rfl | rfl <;> rfl

variable (hw : 0 < w) (hn : n ≠ 0)
include hw hn

theorem rol (h : Shifted .rol s t a r n) :
    r = a.rotateLeft n ∧ t.flag .cy = r.getLsbD 0 ∧ (t.flag .v = true ↔ r.msb ≠ a.msb) := by
  obtain ⟨n, rfl⟩ := Nat.exists_eq_succ_of_ne_zero hn
  exact ⟨h.value.trans (rol_value hw _ _ _), by rw [h.cy, h.value, rol_carry hw], h.v⟩

theorem ror (h : Shifted .ror s t a r n) :
    r = a.rotateRight n ∧ t.flag .cy = r.getLsbD (w - 1) ∧ (t.flag .v = true ↔ r.msb ≠ a.msb) := by
  obtain ⟨n, rfl⟩ := Nat.exists_eq_succ_of_ne_zero hn
  exact ⟨h.value.trans (ror_value hw _ _ _), by rw [h.cy, h.value, ror_carry hw], h.v⟩

omit hw in
theorem shl (h : Shifted .shl s t a r n) : r.toNat = a.toNat * 2 ^ n % 2 ^ w ∧
    t.flag .cy = (decide (n ≤ w) && a.getLsbD (w - n)) ∧ (t.flag .v = true ↔ r.msb ≠ a.msb) ∧ PZSOf t r := by
  obtain ⟨n, rfl⟩ := Nat.exists_eq_succ_of_ne_zero hn
  refine ⟨?_, h.cy.trans (shl_carry _ _ _), h.v, h.pzsOf (by decide)⟩
  rw [h.value, shl_value, BitVec.toNat_shiftLeft, Nat.shiftLeft_eq]

omit hw in
theorem shr (h : Shifted .shr s t a r n) : r.toNat = a.toNat / 2 ^ n ∧ t.flag .cy = a.getLsbD (n - 1) ∧
    (t.flag .v = true ↔ r.msb ≠ a.msb) ∧ PZSOf t r := by
  obtain ⟨n, rfl⟩ := Nat.exists_eq_succ_of_ne_zero hn
  refine ⟨?_, h.cy.trans (shr_carry _ _ _), h.v, h.pzsOf (by decide)⟩
  rw [h.value, shr_value, BitVec.toNat_ushiftRight, Nat.shiftRight_eq_div_pow]

theorem shra (h : Shifted .shra s t a r n) : r.toInt = a.toInt / 2 ^ n ∧
    t.flag .cy = (if n < w then a.getLsbD (n - 1) else a.msb) ∧ t.flag .v = false ∧ PZSOf t r := by
  obtain ⟨n, rfl⟩ := Nat.exists_eq_succ_of_ne_zero hn
  have value := h.value.trans (shra_value hw _ _ _)
  refine ⟨?_, h.cy.trans (shra_carry hw _ _ _), ?_, h.pzsOf (by decide)⟩
  · rw [value, BitVec.toInt_sshiftRight, Int.shiftRight_eq_div_pow]
    rfl
  · rw [Bool.eq_false_iff, ne_eq, h.v, value, BitVec.msb_sshiftRight]
    exact fun differ => differ rfl

omit hn

theorem rolc (h : Shifted .rolc s t a r n) :
    BitVec.ofBool (t.flag .cy) ++ r = (BitVec.ofBool (s.flag .cy) ++ a).rotateLeft n ∧
      (t.flag .v = true ↔ r.msb ≠ a.msb) :=
  ⟨by rw [h.cy, h.value, rolc_value hw], h.v⟩

theorem rorc (h : Shifted .rorc s t a r n) :
    BitVec.ofBool (t.flag .cy) ++ r = (BitVec.ofBool (s.flag .cy) ++ a).rotateRight n ∧
      (t.flag .v = true ↔ r.msb ≠ a.msb) :=
  ⟨by rw [h.cy, h.value, rorc_value hw], h.v⟩

end Shifted

theorem toNat_ne_zero {n : Byte} (hn : n ≠ 0) : n.toNat ≠ 0 := fun zero => hn (BitVec.eq_of_toNat_eq zero)

/-- Settles O53: each rotate at both widths. -/
theorem rotatesRotate : Obligations.RotatesRotate := by
  intro s h
  refine ⟨?rol, ?ror, ?rolc, ?rorc⟩
  case rol =>
    have byte {rm : RM8} {n : Byte} (hn : n ≠ 0) := (runsTo_shift8 (op := .rol) h rm hn).imp fun _ k =>
      k.rol (by decide) (toNat_ne_zero hn)
    have word {rm : RM16} {n : Byte} (hn : n ≠ 0) := (runsTo_shift16 (op := .rol) h rm hn).imp fun _ k =>
      k.rol (by decide) (toNat_ne_zero hn)
    exact ⟨fun _ _ hn => byte hn, fun _ _ hn => word hn, fun _ hn => byte hn, fun _ hn => word hn, fun _ hn => byte hn,
      fun _ hn => word hn⟩
  case ror =>
    have byte {rm : RM8} {n : Byte} (hn : n ≠ 0) := (runsTo_shift8 (op := .ror) h rm hn).imp fun _ k =>
      k.ror (by decide) (toNat_ne_zero hn)
    have word {rm : RM16} {n : Byte} (hn : n ≠ 0) := (runsTo_shift16 (op := .ror) h rm hn).imp fun _ k =>
      k.ror (by decide) (toNat_ne_zero hn)
    exact ⟨fun _ _ hn => byte hn, fun _ _ hn => word hn, fun _ hn => byte hn, fun _ hn => word hn, fun _ hn => byte hn,
      fun _ hn => word hn⟩
  case rolc =>
    have byte {rm : RM8} {n : Byte} (hn : n ≠ 0) := (runsTo_shift8 (op := .rolc) h rm hn).imp fun _ k =>
      k.rolc (by decide)
    have word {rm : RM16} {n : Byte} (hn : n ≠ 0) := (runsTo_shift16 (op := .rolc) h rm hn).imp fun _ k =>
      k.rolc (by decide)
    exact ⟨fun _ _ hn => byte hn, fun _ _ hn => word hn, fun _ hn => byte hn, fun _ hn => word hn, fun _ hn => byte hn,
      fun _ hn => word hn⟩
  case rorc =>
    have byte {rm : RM8} {n : Byte} (hn : n ≠ 0) := (runsTo_shift8 (op := .rorc) h rm hn).imp fun _ k =>
      k.rorc (by decide)
    have word {rm : RM16} {n : Byte} (hn : n ≠ 0) := (runsTo_shift16 (op := .rorc) h rm hn).imp fun _ k =>
      k.rorc (by decide)
    exact ⟨fun _ _ hn => byte hn, fun _ _ hn => word hn, fun _ hn => byte hn, fun _ hn => word hn, fun _ hn => byte hn,
      fun _ hn => word hn⟩

/-- Settles O54: each shift at both widths. -/
theorem shiftsShift : Obligations.ShiftsShift := by
  intro s h
  refine ⟨?shl, ?shr, ?shra⟩
  case shl =>
    have byte {rm : RM8} {n : Byte} (hn : n ≠ 0) := (runsTo_shift8 (op := .shl) h rm hn).imp fun _ k =>
      k.shl (toNat_ne_zero hn)
    have word {rm : RM16} {n : Byte} (hn : n ≠ 0) := (runsTo_shift16 (op := .shl) h rm hn).imp fun _ k =>
      k.shl (toNat_ne_zero hn)
    exact ⟨fun _ _ hn => byte hn, fun _ _ hn => word hn, fun _ hn => byte hn, fun _ hn => word hn, fun _ hn => byte hn,
      fun _ hn => word hn⟩
  case shr =>
    have byte {rm : RM8} {n : Byte} (hn : n ≠ 0) := (runsTo_shift8 (op := .shr) h rm hn).imp fun _ k =>
      k.shr (toNat_ne_zero hn)
    have word {rm : RM16} {n : Byte} (hn : n ≠ 0) := (runsTo_shift16 (op := .shr) h rm hn).imp fun _ k =>
      k.shr (toNat_ne_zero hn)
    exact ⟨fun _ _ hn => byte hn, fun _ _ hn => word hn, fun _ hn => byte hn, fun _ hn => word hn, fun _ hn => byte hn,
      fun _ hn => word hn⟩
  case shra =>
    have byte {rm : RM8} {n : Byte} (hn : n ≠ 0) := (runsTo_shift8 (op := .shra) h rm hn).imp fun _ k =>
      k.shra (by decide) (toNat_ne_zero hn)
    have word {rm : RM16} {n : Byte} (hn : n ≠ 0) := (runsTo_shift16 (op := .shra) h rm hn).imp fun _ k =>
      k.shra (by decide) (toNat_ne_zero hn)
    exact ⟨fun _ _ hn => byte hn, fun _ _ hn => word hn, fun _ hn => byte hn, fun _ hn => word hn, fun _ hn => byte hn,
      fun _ hn => word hn⟩

end Sys2Proof.Machine

/-! PROOFS. DIVU and DIV (49_division.md R281 to R284): when the quotient fits, and what quotient and remainder are. -/

namespace Sys2Proof.Machine

/-! ## Unsigned (R281, R282) -/

/-- The quotient of `hi`:`lo` in base `m` has more than one digit exactly if the divisor is not above `hi`. -/
theorem digit_overflow_iff {hi lo b m : Nat} (hlo : lo < m) : b = 0 ∨ m - 1 < (hi * m + lo) / b ↔ b ≤ hi := by
  rcases Nat.eq_zero_or_pos b with rfl | hb
  · simp
  · have quotient : m ≤ (hi * m + lo) / b ↔ b ≤ hi := by
      rw [Nat.le_div_iff_mul_le hb]
      constructor
      · intro h
        by_contra hlt
        have := Nat.mul_le_mul_left m (show hi + 1 ≤ b by omega)
        rw [Nat.mul_succ, Nat.mul_comm m hi] at this
        omega
      · intro h
        have := Nat.mul_le_mul_left m h
        rw [Nat.mul_comm m hi] at this
        omega
    omega

section Unsigned

variable (s : State)

theorem toNat_aw : s.aw.toNat = (s.reg8 .ah).toNat * 256 + (s.reg8 .al).toNat := by
  conv_lhs => rw [s.reg16_eq_wordOf_aw]
  exact toNat_wordOf _ _

theorem toNat_dividend32 : (dividend32 s).toNat = s.dw.toNat * 0x10000 + s.aw.toNat := by
  rw [dividend32, BitVec.toNat_append, ← Nat.shiftLeft_add_eq_or_of_lt s.aw.isLt, Nat.shiftLeft_eq]

theorem divu8_overflow_iff (b : Byte) : (b = 0 ∨ 0xFF < s.aw.toNat / b.toNat) ↔ b.toNat ≤ (s.reg8 .ah).toNat := by
  rw [toNat_aw, ← digit_overflow_iff (s.reg8 .al).isLt, ← BitVec.toNat_inj]
  rfl

theorem divu16_overflow_iff (b : Word) :
    (b = 0 ∨ 0xFFFF < (dividend32 s).toNat / b.toNat) ↔ b.toNat ≤ s.dw.toNat := by
  rw [toNat_dividend32, ← digit_overflow_iff s.aw.isLt, ← BitVec.toNat_inj]
  rfl

end Unsigned

section Halves

variable (s : State) (hi lo : Byte)

@[simp] theorem reg8_al_setReg16_aw : (s.setReg16 .aw (wordOf hi lo)).reg8 .al = lo := loByte_wordOf hi lo
@[simp] theorem reg8_ah_setReg16_aw : (s.setReg16 .aw (wordOf hi lo)).reg8 .ah = hi := hiByte_wordOf hi lo

end Halves

theorem State.onlyChanges_setAwDw (s : State) (v w : Word) :
    OnlyChanges { regs := [.aw, .dw] } s ((s.setReg16 .aw v).setReg16 .dw w) :=
  (s.onlyChanges_setReg16 .aw v).trans (State.onlyChanges_setReg16 _ .dw w)

theorem runsTo_divu8 {s : State} (op b : Byte) (fits : (s.reg8 .ah).toNat < b.toNat) :
    RunsTo (divu8 op b s) s s.pc { regs := [.aw] } fun t =>
      (t.reg8 .al).toNat = s.aw.toNat / b.toNat ∧ (t.reg8 .ah).toNat = s.aw.toNat % b.toNat := by
  have within := mt (divu8_overflow_iff s b).mp (Nat.not_le.mpr fits)
  have quotient := Nat.not_lt.mp (not_or.mp within).2
  have remainder := Nat.mod_lt s.aw.toNat (Nat.lt_of_le_of_lt (Nat.zero_le _) fits)
  have hb := b.isLt
  refine ⟨_, if_neg within, s.setReg16_pc _ _, s.onlyChanges_setReg16 .aw _, ?_, ?_⟩
  · rw [reg8_al_setReg16_aw, BitVec.toNat_ofNat, Nat.mod_eq_of_lt (by omega)]
  · rw [reg8_ah_setReg16_aw, BitVec.toNat_ofNat, Nat.mod_eq_of_lt (by omega)]

theorem runsTo_divu16 {s : State} (op : Byte) (b : Word) (fits : s.dw.toNat < b.toNat) :
    RunsTo (divu16 op b s) s s.pc { regs := [.aw, .dw] } fun t =>
      t.aw.toNat = (s.dw.toNat * 0x10000 + s.aw.toNat) / b.toNat ∧
      t.dw.toNat = (s.dw.toNat * 0x10000 + s.aw.toNat) % b.toNat := by
  have within := mt (divu16_overflow_iff s b).mp (Nat.not_le.mpr fits)
  have quotient := Nat.not_lt.mp (not_or.mp within).2
  have remainder := Nat.mod_lt (dividend32 s).toNat (Nat.lt_of_le_of_lt (Nat.zero_le _) fits)
  have hb := b.isLt
  rw [← toNat_dividend32]
  refine ⟨_, if_neg within, by simp, s.onlyChanges_setAwDw _ _, ?_, ?_⟩
  · exact (BitVec.toNat_ofNat _ _).trans (Nat.mod_eq_of_lt (by omega))
  · exact (BitVec.toNat_ofNat _ _).trans (Nat.mod_eq_of_lt (by omega))

/-- Settles O57: the fault test is a comparison with the high half of the dividend. -/
theorem unsignedDivision : Obligations.UnsignedDivision := fun s =>
  ⟨fun _ => ⟨fun large => ⟨_, if_pos ((divu8_overflow_iff s _).mpr large), rfl⟩, runsTo_divu8 0xF6 _⟩,
    fun _ => ⟨fun large => ⟨_, if_pos ((divu16_overflow_iff s _).mpr large), rfl⟩, runsTo_divu16 0xF7 _⟩⟩

/-! ## Signed (R283, R284) -/

theorem fitsSigned_byte (q : Int) : fitsSigned 8 q = false ↔ q < -128 ∨ 127 < q := by
  simp [fitsSigned]
  omega

theorem fitsSigned_word (q : Int) : fitsSigned 16 q = false ↔ q < -32768 ∨ 32767 < q := by
  simp [fitsSigned]
  omega

/-- The remainder of the division that rounds toward zero: smaller than the divisor, with the sign of the dividend. -/
theorem tdiv_remainder (a : Int) {b : Int} (hb : b ≠ 0) :
    (a - a.tdiv b * b).natAbs < b.natAbs ∧ (a - a.tdiv b * b = 0 ∨ (a - a.tdiv b * b < 0 ↔ a < 0)) := by
  rw [Int.mul_comm, ← Int.tmod_def]
  constructor
  · rw [Int.natAbs_tmod]
    exact Nat.mod_lt _ (Int.natAbs_pos.mpr hb)
  · rcases Int.le_total 0 a with ha | ha
    · have := Int.tmod_nonneg b ha
      omega
    · have := Int.tmod_nonneg b (a := -a) (by omega)
      rw [Int.neg_tmod] at this
      have : a = 0 → a.tmod b = 0 := by rintro rfl; exact Int.zero_tmod b
      omega

/-- Quotient `q` and remainder `m` of the division of `a` by `b` (R283, R284). -/
def IsTruncatedDivision (a b q m : Int) : Prop := a = q * b + m ∧ m.natAbs < b.natAbs ∧ (m = 0 ∨ (m < 0 ↔ a < 0))

/-- The quotient and the remainder of a division that fits, as `w`-bit values. -/
theorem isTruncatedDivision_ofInt {w : Nat} (hw : 0 < w) {a : Int} {b : BitVec w} (hb : b ≠ 0)
    (lo : -2 ^ (w - 1) ≤ a.tdiv b.toInt) (hi : a.tdiv b.toInt < 2 ^ (w - 1)) :
    IsTruncatedDivision a b.toInt (BitVec.ofInt w (a.tdiv b.toInt)).toInt
      (BitVec.ofInt w (a - a.tdiv b.toInt * b.toInt)).toInt := by
  have nonzero : b.toInt ≠ 0 := fun zero => hb (BitVec.eq_of_toInt_eq (zero.trans BitVec.toInt_zero.symm))
  obtain ⟨small, sign⟩ := tdiv_remainder a nonzero
  have lower := b.le_toInt
  have upper := b.toInt_lt
  rw [BitVec.toInt_ofInt_eq_self hw lo hi, BitVec.toInt_ofInt_eq_self hw (by omega) (by omega)]
  exact ⟨by omega, small, sign⟩

theorem runsTo_div8 {s : State} (op : Byte) {b : Byte} (hb : b ≠ 0) (lo : -128 ≤ s.aw.toInt.tdiv b.toInt)
    (hi : s.aw.toInt.tdiv b.toInt ≤ 127) : RunsTo (div8 op b s) s s.pc { regs := [.aw] } fun t =>
      IsTruncatedDivision s.aw.toInt b.toInt (t.reg8 .al).toInt (t.reg8 .ah).toInt := by
  have fits : ¬ (b = 0 ∨ fitsSigned 8 (s.aw.toInt.tdiv b.toInt) = false) :=
    not_or.mpr ⟨hb, by rw [fitsSigned_byte]; omega⟩
  refine ⟨_, if_neg fits, s.setReg16_pc _ _, s.onlyChanges_setReg16 .aw _, ?_⟩
  simp only [reg8_al_setReg16_aw, reg8_ah_setReg16_aw]
  exact isTruncatedDivision_ofInt (by decide) hb lo (Int.lt_of_le_of_lt hi (by decide))

theorem runsTo_div16 {s : State} (op : Byte) {b : Word} (hb : b ≠ 0) (lo : -32768 ≤ (dividend32 s).toInt.tdiv b.toInt)
    (hi : (dividend32 s).toInt.tdiv b.toInt ≤ 32767) : RunsTo (div16 op b s) s s.pc { regs := [.aw, .dw] } fun t =>
      IsTruncatedDivision (dividend32 s).toInt b.toInt t.aw.toInt t.dw.toInt := by
  have fits : ¬ (b = 0 ∨ fitsSigned 16 ((dividend32 s).toInt.tdiv b.toInt) = false) :=
    not_or.mpr ⟨hb, by rw [fitsSigned_word]; omega⟩
  refine ⟨_, if_neg fits, by simp, s.onlyChanges_setAwDw _ _, ?_⟩
  exact isTruncatedDivision_ofInt (by decide) hb lo (Int.lt_of_le_of_lt hi (by decide))

/-- Settles O58: the range test is that of the statement, and quotient and remainder fit. -/
theorem signedDivision : Obligations.SignedDivision := fun _ =>
  ⟨fun _ => ⟨fun large => ⟨_, if_pos ((or_congr_right (fitsSigned_byte _)).mpr large), rfl⟩, runsTo_div8 0xF6⟩,
    fun _ => ⟨fun large => ⟨_, if_pos ((or_congr_right (fitsSigned_word _)).mpr large), rfl⟩, runsTo_div16 0xF7⟩⟩

end Sys2Proof.Machine

/-! PROOFS. The reset state and construction (10_state.md R31, 70_reset_and_hazards.md R330), the segment prefixes
(40_step_and_prefixes.md R101 to R104), halted cores and runs (60_exceptions.md R300), and the cycle cost
(70_reset_and_hazards.md R345). -/

namespace Sys2Proof.Machine

/-! ## Reset and construction -/

theorem reset_reg16 (r : Reg16) : State.reset.reg16 r = 0 := by cases r <;> rfl

/-- Settles O5: the fields of `State.reset`. -/
theorem resetState : Obligations.ResetState :=
  ⟨reset_reg16, fun r => by cases r <;> rfl, rfl, rfl, rfl, rfl, rfl, rfl, fun (b, _) => by cases b <;> rfl,
    fun _ => rfl, fun _ => rfl, rfl, rfl, rfl, rfl, rfl, rfl, rfl⟩

/-- Settles O6: four empty arrays and the default parameters. -/
theorem resetIsWellFormed : Obligations.ResetIsWellFormed := by
  unfold Obligations.ResetIsWellFormed
  decide

/-- Settles O8: the image is the one array that is not empty. -/
theorem constructionLoadsTheImage : Obligations.ConstructionLoadsTheImage := by
  intro cfg image fits hcfg
  refine ⟨_, if_neg (Nat.not_lt.mpr fits), ?wf, rfl, ?memory, fun _ => rfl, ?regs, rfl, rfl, rfl, rfl, rfl, rfl,
    fun _ => rfl, ?xa, rfl, rfl, rfl, rfl, rfl, rfl⟩
  case wf =>
    exact (State.wf_iff _).mpr ⟨⟨Mem.ofBytes_wf 0 image, Mem.ofBytes_below 0 image (by omega)⟩, ⟨rfl, rfl⟩, ⟨rfl, rfl⟩,
      ⟨rfl, rfl⟩, hcfg⟩
  case memory => exact fun a => (congrArg _ (Nat.zero_add a).symm).trans (Mem.read_ofBytes 0 image a)
  case regs => exact reset_reg16
  case xa => simp [State.xa, State.portRead8, State.reset, Mem.read]

/-- Settles O59: `setSegOverride` of each. -/
theorem prefixesSetTheLatch : Obligations.PrefixesSetTheLatch := fun _ => ⟨rfl, rfl, rfl, rfl⟩

/-! ## Halted cores (R300) and runs (R321) -/

theorem run_of_step_ne_next {s : State} (h : ∀ t, step s ≠ .next t) (n : Nat) : run n s = s := by
  cases n with
  | zero => rfl
  | succ n =>
    cases stepped : step s with
    | next t => exact absurd stepped (h t)
    | fault f => exact run_succ_of_fault stepped n
    | refused r => exact run_succ_of_refused stepped n

theorem run_of_halted {s : State} {f : Fault} (h : s.halted = some f) (n : Nat) : run n s = s :=
  run_of_step_ne_next (fun _ => by rw [step_of_halted h]; exact nofun) n

theorem run_add (k m : Nat) : ∀ s, run (k + m) s = run m (run k s) := by
  induction k with
  | zero => intro s; rw [Nat.zero_add, run_zero]
  | succ k ih =>
    intro s
    rw [Nat.add_right_comm]
    by_cases h : ∃ t, step s = .next t
    · obtain ⟨t, next⟩ := h
      rw [run_succ_of_next next, run_succ_of_next next, ih]
    · have stays := run_of_step_ne_next (not_exists.mp h)
      rw [stays, stays, stays]

/-- Settles O12: a run that meets a halted core stays in it. -/
theorem haltedCoreTakesNoStep : Obligations.HaltedCoreTakesNoStep := by
  refine ⟨fun s f => ⟨_, rfl, rfl⟩, fun s f h => ⟨step_of_halted h, run_of_halted h⟩, ?runs, rfl⟩
  rintro n s t ⟨ran, running⟩ k hk
  obtain ⟨m, rfl⟩ := Nat.exists_eq_add_of_le hk
  cases h : (run k s).halted with
  | none => rfl
  | some f =>
    rw [run_add, run_of_halted h] at ran
    simp [← ran, State.running, h] at running

/-! ## The cycle cost (R345) -/

theorem one_le_cycles (i : Instr) (s : State) : 1 ≤ cycles i s := by
  rw [cycles]
  omega

/-- The three facts of an instruction with a word r/m operand that its cost turns on: where its operand is, that it has
no other, and that its entry is made of the opcode and the ModRM byte. -/
structure WordForm (f : RM16 → Instr) : Prop where
  operand (rm s) : operandAddress (f rm) s = (resolve s rm).address
  implicit (rm s) : implicitAddresses (f rm) s = []
  key : ∃ op reg, ∀ rm, cycleKey (f rm) = (op, if hasSecondByte op then some (rm.modrm16 reg) else none)

theorem wordForm_of_encode {f : RM16 → Instr} {op : Byte} {reg : BitVec 3} {tail : RM16 → List Byte}
    (operand : ∀ rm s, operandAddress (f rm) s = (resolve s rm).address)
    (implicit : ∀ rm s, implicitAddresses (f rm) s = []) (bytes : ∀ rm, encode (f rm) = encRM16 op reg rm (tail rm)) :
    WordForm f where
  operand := operand
  implicit := implicit
  key := ⟨op, reg, fun rm => by rw [cycleKey, bytes]; rfl⟩

theorem wordForm_of_mem (reg : Reg16) (src : SReg) (imm : Word) (byte : Byte) :
    ∀ f ∈ wordOperandForms reg src imm byte, WordForm f := by
  simp only [wordOperandForms, List.forall_mem_cons]
  and_intros
  on_goal -1 => exact fun _ h => absurd h List.not_mem_nil
  all_goals exact wordForm_of_encode (fun _ _ => rfl) (fun _ _ => rfl) fun _ => rfl

namespace WordForm

variable {f : RM16 → Instr} (h : WordForm f)
include h

theorem wordAddresses_eq (rm : RM16) (s : State) : wordAddresses (f rm) s = (resolve s rm).address.toList := by
  rw [wordAddresses, h.operand, h.implicit, List.append_nil]

theorem cycleKey_congr {rm rm' : RM16} (modrm : ∀ reg, rm.modrm16 reg = rm'.modrm16 reg) :
    cycleKey (f rm) = cycleKey (f rm') := by
  obtain ⟨op, reg, key⟩ := h.key
  rw [key, key, modrm]

end WordForm

theorem cycles_congr {i j : Instr} {s t : State} (key : cycleKey i = cycleKey j)
    (reps : repetitions i s = repetitions j t)
    (same : (wordAddresses i s).map (· % 2) = (wordAddresses j t).map (· % 2)) : cycles i s = cycles j t := by
  rw [cycles, cycles, key, reps, oddCost_congr _ _ _ _ _ same]

theorem cycles_lt {i j : Instr} {s t : State} (key : cycleKey i = cycleKey j)
    (reps : repetitions i s = repetitions j t) {before before' after after' : List Nat} {a a' : Nat}
    (hi : wordAddresses i s = before ++ a :: after) (hj : wordAddresses j t = before' ++ a' :: after')
    (hbefore : before.map (· % 2) = before'.map (· % 2)) (hafter : after.map (· % 2) = after'.map (· % 2))
    (even : a % 2 = 0) (odd : a' % 2 = 1) : cycles i s < cycles j t := by
  rw [cycles, cycles, key, reps, hi, hj]
  exact Nat.add_lt_add_left (oddCost_lt _ _ even odd hafter _ _ _ hbefore) _

theorem wordAddresses_byteOperandForms (reg : Reg8) (byte : Byte) :
    ∀ f ∈ byteOperandForms reg byte, ∀ (s : State) (rm : RM8), wordAddresses (f rm) s = [] := by
  simp only [byteOperandForms, List.forall_mem_cons]
  and_intros
  on_goal -1 => exact fun _ h => absurd h List.not_mem_nil
  all_goals exact fun _ _ => rfl

theorem oddCost_of_even (key : CycleKey) (reps : Nat) : ∀ (l : List Nat) (k : Nat),
    (∀ a ∈ l, a % 2 = 0) → oddCost key reps k l = 0
  | [], _, _ => rfl
  | a :: l, k, even => by
    obtain ⟨ha, hl⟩ := List.forall_mem_cons.mp even
    rw [oddCost_cons, oddCost_of_even key reps l _ hl, isOdd, ha]
    rfl

/-- The cost of an instruction without repetitions whose word operands are even. -/
theorem cycles_eq_of_even {i : Instr} {s : State} {key : CycleKey} {l : List Nat} (hkey : cycleKey i = key)
    (reps : repetitions i s = 0) (operands : wordAddresses i s = l) (even : ∀ a ∈ l, a % 2 = 0) :
    cycles i s = 1 + evenCost key 0 := by
  rw [cycles, hkey, reps, operands, oddCost_of_even _ _ _ _ even, Nat.add_zero]

/-- The five or six steps of the scenario (R345 (c)). -/
theorem scenario_cost (s : State) (v w x : Word) (even : phys s.dataSeg s.iy % 2 = 0) :
    let five := cycles (.movReg16Imm16 .dw v) s + cycles (.movReg16Imm16 .aw w) s + cycles (.movDs1Rm16 (.reg .aw)) s +
      cycles (.movReg16Imm16 .iy x) s + cycles .prefixDs1 s
    five = 23 ∨ five + cycles (.addRm16Reg16 (.mem .iy) .dw) s = 23 := by
  intro five
  have none {i : Instr} {key : CycleKey} (hkey : cycleKey i = key) (reps : repetitions i s = 0)
      (operands : wordAddresses i s = []) := cycles_eq_of_even hkey reps operands nofun
  have dw := none (i := .movReg16Imm16 .dw v) (key := (0xBA, .none)) rfl rfl rfl
  have aw := none (i := .movReg16Imm16 .aw w) (key := (0xB8, .none)) rfl rfl rfl
  have ds1 := none (i := .movDs1Rm16 (.reg .aw)) (key := (0x8E, some 0xC0)) rfl rfl rfl
  have iy := none (i := .movReg16Imm16 .iy x) (key := (0xBF, .none)) rfl rfl rfl
  have latch := none (i := .prefixDs1) (key := (0x26, .none)) rfl rfl rfl
  have add := cycles_eq_of_even (i := .addRm16Reg16 (.mem .iy) .dw) (key := (0x01, some 0x15)) (s := s) rfl rfl rfl
    (List.forall_mem_singleton.mpr even)
  have total := evenCost_scenario
  unfold scenarioKeys at total
  cases six : Config.scenarioHasSixSteps
  · left
    simp only [six, Bool.false_eq_true, if_false, List.append_nil, List.map_cons, List.map_nil, List.sum_cons,
      List.sum_nil, List.length_cons, List.length_nil] at total
    omega
  · right
    simp only [six, if_true, List.cons_append, List.nil_append, List.map_cons, List.map_nil, List.sum_cons,
      List.sum_nil, List.length_cons, List.length_nil] at total
    omega

/-- The word operands of a REP: those of its transfers, none without a transfer (log 3). -/
theorem wordAddresses_rep {s : State} {l : List Nat} {i : Instr}
    (hi : wordAddresses i s = if s.cw = 0 then [] else l) : (s.cw ≠ 0 → wordAddresses i s = l) ∧
      (s.cw = 0 → wordAddresses i s = []) :=
  ⟨fun h => hi.trans (if_neg h), fun h => hi.trans (if_pos h)⟩

/-- Settles O15: the cost as its three parts. -/
theorem oddWordOperandCostsMore : Obligations.OddWordOperandCostsMore := by
  refine ⟨one_le_cycles, fun i j s t key reps => ⟨cycles_congr key reps, fun _ _ _ _ _ _ hi hj before after even odd =>
    cycles_lt key reps hi hj before after even odd⟩, fun reg src imm byte f hf => ?form, fun s a a' => ?direct,
    wordAddresses_byteOperandForms, fun s => ?block, scenario_cost⟩
  case form =>
    have form := wordForm_of_mem reg src imm byte f hf
    refine ⟨fun s r => form.wordAddresses_eq _ s, fun s rm seg off h => ?_, fun _ _ => form.cycleKey_congr fun _ => rfl,
      fun _ _ _ => form.cycleKey_congr fun _ => rfl, fun _ _ _ => form.cycleKey_congr fun _ => rfl⟩
    rw [form.wordAddresses_eq, h]
    rfl
  case direct => exact ⟨rfl, rfl, rfl, rfl, rfl, rfl, rfl, rfl⟩
  case block =>
    intro source destination
    have rep {l : List Nat} {i : Instr} (hi : wordAddresses i s = if s.cw = 0 then [] else l) := wordAddresses_rep hi
    obtain ⟨movbk, movbk'⟩ := rep (i := .repMovbkWord) rfl
    obtain ⟨ldm, ldm'⟩ := rep (i := .repLdmWord) rfl
    obtain ⟨outm, outm'⟩ := rep (i := .repOutmWord) rfl
    obtain ⟨stm, stm'⟩ := rep (i := .repStmWord) rfl
    obtain ⟨inm, inm'⟩ := rep (i := .repInmWord) rfl
    simp only [List.forall_mem_cons, List.not_mem_nil, false_implies, implies_true, and_true]
    exact ⟨rfl, ⟨rfl, rfl⟩, ⟨rfl, rfl⟩, fun h => ⟨movbk h, ⟨ldm h, outm h⟩, stm h, inm h⟩,
      fun h => ⟨movbk' h, ldm' h, outm' h, stm' h, inm' h⟩, ⟨rfl, rfl, rfl, rfl, rfl, rfl, rfl, rfl, rfl, rfl⟩,
      ⟨rfl, rfl, rfl, rfl, rfl⟩, ⟨rfl, rfl, rfl, rfl, rfl⟩, fun _ => ⟨rfl, rfl⟩, fun _ => rfl, fun _ _ => rfl, rfl⟩

end Sys2Proof.Machine

/-! PROOFS. What any instruction can change (10_state.md R17, R20, R21, R24, R25, R29; 20_memory.md section 2), by one
split over the instructions, and what follows for a completed step. -/

namespace Sys2Proof.Machine

/-! ## The effect of an instruction -/

/-- BR far, CALL far, RET far, BRKXA and RETXA (R17). -/
def LoadsPs (i : Instr) : Prop :=
  (∃ off seg, i = .brFar off seg) ∨ (∃ off seg, i = .callFar off seg) ∨ i = .retFar ∨ (∃ n, i = .brkxa n) ∨
    ∃ n, i = .retxa n

/-- BRKXA and RETXA (R271, R272). -/
def SwitchesBank (i : Instr) : Prop := (∃ n, i = .brkxa n) ∨ ∃ n, i = .retxa n

/-- The instructions that output (R29). -/
def Outputs (i : Instr) : Prop :=
  (∃ p, i = .outImm8Al p) ∨ (∃ p, i = .outImm8Aw p) ∨
    i ∈ [.outDwAl, .outDwAw, .outmByte, .outmWord, .repOutmByte, .repOutmWord]

/-- What the change `c` may name if it is `i`'s in `s`. -/
structure Allowed (i : Instr) (s : State) (c : Changes) : Prop where
  psw : i ≠ .popPsw → c.allPsw = false ∧ c.flags ⊆ [.cy, .p, .z, .s, .v]
  ps : WellFormed i = true → .ps ∈ c.sregs → LoadsPs i
  output : c.output ≠ [] → Outputs i
  ports : ∀ p ∈ c.ports, (p = s.cfg.xaPort ∧ SwitchesBank i) ∨ Outputs i ∧ ∃ v, (p, v) ∈ c.output

/-- All that an instruction can do: change what is allowed, set the latch, or raise with no more than a push done. -/
inductive Effect (i : Instr) (s : State) : Result → Prop where
  | ran {c : Changes} {t : State} (allowed : Allowed i s c) (frame : OnlyChanges c s t)
      (wf : s.wf = true → t.wf = true) : Effect i s (.next t)
  | latched {r : SReg} (hi : i ∈ [.prefixDs1, .prefixPs, .prefixSs, .prefixDs0]) :
      Effect i s (.next (s.setSegOverride (some r)))
  | raised {c : Changes} {u : State} {f : Fault} (frame : OnlyChanges c s u) (wf : s.wf = true → u.wf = true) :
      Effect i s (u.raise f)

namespace Allowed

variable {i : Instr} {s : State} {regs : List Reg16} {halves : List Reg8} {cells : List ByteCell}

/-- Registers, memory and the five flags. -/
theorem stores {flags : List Flag} (hf : flags ⊆ [.cy, .p, .z, .s, .v]) :
    Allowed i s { regs := regs, halves := halves, cells := cells, flags := flags } :=
  ⟨fun _ => ⟨rfl, hf⟩, fun _ => nofun, fun h => absurd rfl h, nofun⟩

theorem noFlags : Allowed i s { regs := regs, halves := halves, cells := cells } := stores (List.nil_subset _)

theorem segment {r : SReg} (hr : WellFormed i = true → r ≠ .ps) : Allowed i s { regs := regs, sregs := [r] } :=
  ⟨fun _ => ⟨rfl, List.nil_subset _⟩, fun wf hps => absurd (List.mem_singleton.mp hps).symm (hr wf),
    fun h => absurd rfl h, nofun⟩

theorem far (hi : LoadsPs i) : Allowed i s { regs := regs, sregs := [.ps], cells := cells } :=
  ⟨fun _ => ⟨rfl, List.nil_subset _⟩, fun _ _ => hi, fun h => absurd rfl h, nofun⟩

/-- Every port written is in the trace entries. -/
theorem outputs {ports : List Word} {out : List (Word × Byte)} (hi : Outputs i) (hp : ports = out.map Prod.fst) :
    Allowed i s { regs := regs, ports := ports, output := out } :=
  ⟨fun _ => ⟨rfl, List.nil_subset _⟩, fun _ => nofun, fun _ => hi, fun p hmem => by
    subst hp
    obtain ⟨⟨q, v⟩, he, rfl⟩ := List.mem_map.mp hmem
    exact .inr ⟨hi, v, he⟩⟩

/-- POP PSW loads all sixteen bits (R165). -/
theorem popPsw : Allowed .popPsw s { regs := regs, allPsw := true } :=
  ⟨fun h => absurd rfl h, fun _ => nofun, fun h => absurd rfl h, nofun⟩

theorem bankSwitch (far : LoadsPs i) (hi : SwitchesBank i) :
    Allowed i s { sregs := [.ps], ports := [s.cfg.xaPort] } :=
  ⟨fun _ => ⟨rfl, List.nil_subset _⟩, fun _ _ => far, fun h => absurd rfl h,
    fun _ hp => .inl ⟨List.mem_singleton.mp hp, hi⟩⟩

end Allowed

/-! ## The effects of the shared operations -/

section Effects

variable {i : Instr} {s : State}

theorem Effect.ite {p : Prop} [Decidable p] {a b : Result} (ha : Effect i s a) (hb : Effect i s b) :
    Effect i s (if p then a else b) := by
  split
  · exact ha
  · exact hb

theorem Effect.nothing : Effect i s (.next s) := .ran Allowed.noFlags (.refl s) id

theorem Effect.raise {f : Fault} : Effect i s (s.raise f) := .raised (.refl s) id

theorem effect_write8 (x : Place Reg8) (v : Byte) : Effect i s (.next (s.write8 x v)) :=
  .ran Allowed.noFlags (s.onlyChanges_write8 x v) fun h => State.wf_write8 h x v

theorem effect_write16 (x : Place Reg16) (v : Word) : Effect i s (.next (s.write16 x v)) :=
  .ran Allowed.noFlags (s.onlyChanges_write16 x v) fun h => State.wf_write16 h x v

theorem effect_setReg8 (r : Reg8) (v : Byte) : Effect i s (.next (s.setReg8 r v)) :=
  .ran Allowed.noFlags (s.onlyChanges_setReg8 r v) fun h => State.wf_setReg8 h r v

theorem effect_setReg16 (r : Reg16) (v : Word) : Effect i s (.next (s.setReg16 r v)) :=
  .ran Allowed.noFlags (s.onlyChanges_setReg16 r v) fun h => State.wf_setReg16 h r v

theorem effect_setSReg {r : SReg} (hr : WellFormed i = true → r ≠ .ps) (v : Word) :
    Effect i s (.next (s.setSReg r v)) :=
  .ran (Allowed.segment hr) (s.onlyChanges_setSReg r v) fun h => State.wf_setSReg h r v

theorem effect_alu8 (op : AluOp) (dst : Place Reg8) (a b : Byte) : Effect i s (alu8 op dst a b s) := by
  have flags : aluWrites op ⊆ [.cy, .p, .z, .s, .v] := by cases op <;> decide
  cases hop : aluStores op with
  | true =>
    rw [alu8_eq_next hop]
    exact .ran (Allowed.stores flags) (s.onlyChanges_write8_setPsw dst _ (getLsbD_aluFlags op s.psw a b))
      fun h => State.wf_setPsw (State.wf_write8 h _ _) _
  | false =>
    rw [alu8, hop]
    exact .ran (Allowed.stores flags) (s.onlyChanges_setPsw (getLsbD_aluFlags op s.psw a b))
      fun h => State.wf_setPsw h _

theorem effect_alu16 (op : AluOp) (dst : Place Reg16) (a b : Word) : Effect i s (alu16 op dst a b s) := by
  have flags : aluWrites op ⊆ [.cy, .p, .z, .s, .v] := by cases op <;> decide
  cases hop : aluStores op with
  | true =>
    rw [alu16_eq_next hop]
    exact .ran (Allowed.stores flags) (s.onlyChanges_write16_setPsw dst _ (getLsbD_aluFlags op s.psw a b))
      fun h => State.wf_setPsw (State.wf_write16 h _ _) _
  | false =>
    rw [alu16, hop]
    exact .ran (Allowed.stores flags) (s.onlyChanges_setPsw (getLsbD_aluFlags op s.psw a b))
      fun h => State.wf_setPsw h _

theorem effect_setReg16_flags (r : Reg16) (v : Word) (cy ov : Bool) :
    Effect i s (.next ((s.setReg16 r v).setPsw (setPZSCYV (s.setReg16 r v).psw v cy ov))) := by
  obtain ⟨_, ⟨⟩, -, frame, -⟩ := runsTo_setReg16_flags s r v cy ov
  exact .ran (Allowed.stores (List.Subset.refl _)) frame fun h => State.wf_setPsw (State.wf_setReg16 h r v) _

theorem shiftWrites_subset (op : ShiftOp) : shiftWrites op ⊆ [.cy, .p, .z, .s, .v] := by cases op <;> decide

theorem effect_shift8 (op : ShiftOp) (rm : RM8) (n : Byte) : Effect i s (shift8 op rm n s) :=
  .ite .nothing <| .ran (Allowed.stores (shiftWrites_subset op))
    (s.onlyChanges_write8_setPsw (resolve s rm) _ fun k hk => by
      rw [State.write8_psw]; exact getLsbD_groupFlags op s.psw _ _ _ k hk)
    fun h => State.wf_setPsw (State.wf_write8 h _ _) _

theorem effect_shift16 (op : ShiftOp) (rm : RM16) (n : Byte) : Effect i s (shift16 op rm n s) :=
  .ite .nothing <| .ran (Allowed.stores (shiftWrites_subset op))
    (s.onlyChanges_write16_setPsw (resolve s rm) _ fun k hk => by
      rw [State.write16_psw]; exact getLsbD_groupFlags op s.psw _ _ _ k hk)
    fun h => State.wf_setPsw (State.wf_write16 h _ _) _

theorem effect_division16 {p : Prop} [Decidable p] {f : Fault} (v w : Word) :
    Effect i s (if p then s.raise f else .next ((s.setReg16 .aw v).setReg16 .dw w)) :=
  .ite .raise <| .ran Allowed.noFlags (s.onlyChanges_setAwDw v w) fun h =>
    State.wf_setReg16 (State.wf_setReg16 h _ _) _ _

theorem effect_branchIf (cond : Bool) (d : Byte) : Effect i s (branchIf cond d s) := by
  cases cond with
  | true => exact .ran Allowed.noFlags (s.onlyChanges_setPc _) fun h => State.wf_setPc h _
  | false => exact .nothing

theorem effect_setPc (v : Word) : Effect i s (.next (s.setPc v)) :=
  .ran Allowed.noFlags (s.onlyChanges_setPc v) fun h => State.wf_setPc h v

theorem effect_pushValue (v : Word) : Effect i s (pushValue v s) := by
  unfold pushValue
  split
  case h_1 pushed => exact .ran Allowed.noFlags (s.onlyChanges_push16 pushed) fun h => State.wf_push16 h pushed
  case h_2 => exact .raise

theorem effect_callNear (d : Word) : Effect i s (execCallNear d s) := by
  unfold execCallNear
  split
  case h_1 t pushed =>
    exact .ran Allowed.noFlags ((s.onlyChanges_push16 pushed).trans (t.onlyChanges_setPc _))
      fun h => State.wf_branch (State.wf_push16 h pushed) d
  case h_2 => exact .raise

theorem effect_callFar (hi : LoadsPs i) (off seg : Word) : Effect i s (execCallFar off seg s) := by
  unfold execCallFar
  split
  case h_1 => exact .raise
  case h_2 t pushed =>
    split
    case h_1 => exact .raised (s.onlyChanges_push16 pushed) fun h => State.wf_push16 h pushed
    case h_2 u pushed' =>
      exact .ran (Allowed.far hi) (((s.onlyChanges_push16 pushed).trans (t.onlyChanges_push16 pushed')).trans
        (u.onlyChanges_farJump seg off)) fun h =>
        State.wf_farJump (State.wf_push16 (State.wf_push16 h pushed) pushed') _ _

theorem effect_popSReg {r : SReg} (hr : r ≠ .ps) (v : Word) : Effect i s (.next (s.pop16.2.setSReg r v)) :=
  .ran (Allowed.segment fun _ => hr) (s.onlyChanges_pop16_setSReg r v) fun h => State.wf_setSReg (State.wf_pop16 h) r v

theorem effect_outputs {regs : List Reg16} {ports : List Word} {out : List (Word × Byte)} {t : State} (hi : Outputs i)
    (frame : OnlyChanges { regs := regs, ports := ports, output := out } s t) (hp : ports = out.map Prod.fst)
    (wf : s.wf = true → t.wf = true) : Effect i s (.next t) := .ran (Allowed.outputs hi hp) frame wf

theorem effect_output8 (hi : Outputs i) (p : Word) (v : Byte) : Effect i s (.next (s.output8 p v)) :=
  effect_outputs hi (s.onlyChanges_output8 p v) rfl fun h => State.wf_output8 h p v

theorem effect_output16 (hi : Outputs i) (p v : Word) : Effect i s (.next (s.output16 p v)) :=
  effect_outputs hi (s.onlyChanges_output16 p v) rfl fun h => State.wf_output16 h p v

theorem effect_vectorJump (hi : LoadsPs i) (hi' : SwitchesBank i) (n : Byte) : Effect i s (vectorJump n s) :=
  .ran (Allowed.bankSwitch hi hi') (s.onlyChanges_flipXa.trans (State.onlyChanges_farJump _ _ _))
    fun h => State.wf_farJump (State.wf_flipXa h) _ _

end Effects

/-! ## The transfers keep the state well formed -/

section TransfersWf

variable {s : State} (h : s.wf = true)
include h

theorem wf_movbk8 : (movbk8 s).wf = true :=
  State.wf_setReg16 (State.wf_setReg16 (State.wf_memWrite8 h _ _ _) _ _) _ _
theorem wf_movbk16 : (movbk16 s).wf = true :=
  State.wf_setReg16 (State.wf_setReg16 (State.wf_memWrite16 h _ _ _) _ _) _ _
theorem wf_stm8 : (stm8 s).wf = true := State.wf_setReg16 (State.wf_memWrite8 h _ _ _) _ _
theorem wf_stm16 : (stm16 s).wf = true := State.wf_setReg16 (State.wf_memWrite16 h _ _ _) _ _
theorem wf_ldm8 : (ldm8 s).wf = true := State.wf_setReg16 (State.wf_setReg8 h _ _) _ _
theorem wf_ldm16 : (ldm16 s).wf = true := State.wf_setReg16 (State.wf_setReg16 h _ _) _ _
theorem wf_outm8 : (outm8 s).wf = true := State.wf_setReg16 (State.wf_output8 h _ _) _ _
theorem wf_outm16 : (outm16 s).wf = true := State.wf_setReg16 (State.wf_output16 h _ _) _ _
theorem wf_inm8 : (inm8 s).wf = true := State.wf_setReg16 (State.wf_memWrite8 h _ _ _) _ _
theorem wf_inm16 : (inm16 s).wf = true := State.wf_setReg16 (State.wf_memWrite16 h _ _ _) _ _

end TransfersWf

theorem wf_repeatBody {body : State → State} (hbody : ∀ {s : State}, s.wf = true → (body s).wf = true) (n : Nat) :
    ∀ {s : State}, s.wf = true → (repeatBody body n s).wf = true := by
  induction n with
  | zero => exact id
  | succ n ih => exact fun h => ih (State.wf_setReg16 (hbody h) _ _)

theorem wf_repLoop {body : State → State} (hbody : ∀ {s : State}, s.wf = true → (body s).wf = true) {s : State}
    (h : s.wf = true) : (repLoop body s).wf = true := wf_repeatBody hbody _ h

/-! ## Every instruction -/

/-- The rows not named are the 143 that only raise. -/
theorem effect_exec (i : Instr) (s : State) : Effect i s (exec i s) := by
  cases i
  case addRm8Reg8 | addReg8Rm8 | addAlImm8 | orRm8Reg8 | orReg8Rm8 | orAlImm8 | andRm8Reg8 | andReg8Rm8 | andAlImm8 |
      subRm8Reg8 | subReg8Rm8 | subAlImm8 | xorRm8Reg8 | xorReg8Rm8 | xorAlImm8 | cmpRm8Reg8 | cmpReg8Rm8 |
      cmpAlImm8 | addRm8Imm8 | orRm8Imm8 | andRm8Imm8 | subRm8Imm8 | xorRm8Imm8 | cmpRm8Imm8 =>
    exact effect_alu8 _ _ _ _
  case addRm16Reg16 | addReg16Rm16 | addAwImm16 | orRm16Reg16 | orReg16Rm16 | orAwImm16 | andRm16Reg16 |
      andReg16Rm16 | andAwImm16 | subRm16Reg16 | subReg16Rm16 | subAwImm16 | xorRm16Reg16 | xorReg16Rm16 |
      xorAwImm16 | cmpRm16Reg16 | cmpReg16Rm16 | cmpAwImm16 | addRm16Imm16 | orRm16Imm16 | andRm16Imm16 |
      subRm16Imm16 | xorRm16Imm16 | cmpRm16Imm16 | addRm16Simm8 | orRm16Simm8 | andRm16Simm8 | subRm16Simm8 |
      xorRm16Simm8 | cmpRm16Simm8 =>
    exact effect_alu16 _ _ _ _
  case incReg16 | decReg16 => exact effect_setReg16_flags _ _ _ _
  case rolRm8Imm8 | rorRm8Imm8 | rolcRm8Imm8 | rorcRm8Imm8 | shlRm8Imm8 | shrRm8Imm8 | shraRm8Imm8 | rolRm8Cl |
      rorRm8Cl | rolcRm8Cl | rorcRm8Cl | shlRm8Cl | shrRm8Cl | shraRm8Cl =>
    exact effect_shift8 _ _ _
  case rolRm8One | rorRm8One | rolcRm8One | rorcRm8One | shlRm8One | shrRm8One | shraRm8One =>
    exact effect_shift8 _ _ 1
  case rolRm16Imm8 | rorRm16Imm8 | rolcRm16Imm8 | rorcRm16Imm8 | shlRm16Imm8 | shrRm16Imm8 | shraRm16Imm8 |
      rolRm16Cl | rorRm16Cl | rolcRm16Cl | rorcRm16Cl | shlRm16Cl | shrRm16Cl | shraRm16Cl =>
    exact effect_shift16 _ _ _
  case rolRm16One | rorRm16One | rolcRm16One | rorcRm16One | shlRm16One | shrRm16One | shraRm16One =>
    exact effect_shift16 _ _ 1
  case divuRm8 | divRm8 => exact .ite .raise (effect_setReg16 _ _)
  case divuRm16 | divRm16 => exact effect_division16 _ _
  case bv | bnv | bc | bnc | be | bne | bnh | bh | bn | bp | bpe | bpo | blt | bge | ble | bgt =>
    exact effect_branchIf _ _
  case brNear | brShort => exact effect_setPc _
  case brFar off seg =>
    exact .ran (Allowed.far (.inl ⟨off, seg, rfl⟩)) (s.onlyChanges_farJump seg off) fun h => State.wf_farJump h _ _
  case callNear => exact effect_callNear _
  case callFar off seg => exact effect_callFar (.inr (.inl ⟨off, seg, rfl⟩)) off seg
  case retNear =>
    exact .ran Allowed.noFlags (s.onlyChanges_pop16.trans (s.pop16.2.onlyChanges_setPc _))
      fun h => State.wf_setPc (State.wf_pop16 h) _
  case retFar =>
    exact .ran (Allowed.far (.inr (.inr (.inl rfl))))
      ((s.onlyChanges_pop16.trans s.pop16.2.onlyChanges_pop16).trans (State.onlyChanges_farJump _ _ _))
      fun h => State.wf_farJump (State.wf_pop16 (State.wf_pop16 h)) _ _
  case brkxa n => exact effect_vectorJump (.inr (.inr (.inr (.inl ⟨n, rfl⟩)))) (.inl ⟨n, rfl⟩) n
  case retxa n => exact effect_vectorJump (.inr (.inr (.inr (.inr ⟨n, rfl⟩)))) (.inr ⟨n, rfl⟩) n
  case pushDs1 | pushPs | pushSs | pushDs0 | pushReg16 | pushPsw => exact effect_pushValue _
  case popDs1 | popSs | popDs0 => exact effect_popSReg (by decide) _
  case popReg16 r =>
    exact .ran Allowed.noFlags (s.onlyChanges_pop16_setReg16 r _) fun h => State.wf_setReg16 (State.wf_pop16 h) _ _
  case popPsw =>
    exact .ran Allowed.popPsw
      (s.onlyChanges_pop16.trans (s.pop16.2.onlyChanges_setPsw_all _)) fun h => State.wf_setPsw (State.wf_pop16 h) _
  case movRm8Reg8 | movRm8Imm8 => exact effect_write8 _ _
  case movRm16Reg16 | movRm16Sreg | movRm16Imm16 => exact effect_write16 _ _
  case movReg8Rm8 | movAlDirect | movReg8Imm8 | inAlImm8 | inAlDw => exact effect_setReg8 _ _
  case movReg16Rm16 | movAwDirect | movReg16Imm16 | inAwImm8 | inAwDw => exact effect_setReg16 _ _
  case movDirectAl => exact effect_write8 (.mem _ _) _
  case movDirectAw => exact effect_write16 (.mem _ _) _
  case movDs1Rm16 => exact effect_setSReg (fun _ => by decide) _
  case movSsDs0Rm16 dst rm => exact effect_setSReg (by rintro wf rfl; simp [WellFormed] at wf) _
  case outImm8Al p => exact effect_output8 (.inl ⟨p, rfl⟩) _ _
  case outImm8Aw p => exact effect_output16 (.inr (.inl ⟨p, rfl⟩)) _ _
  case outDwAl => exact effect_output8 (.inr (.inr (by decide))) _ _
  case outDwAw => exact effect_output16 (.inr (.inr (by decide))) _ _
  case prefixDs1 | prefixPs | prefixSs | prefixDs0 => exact .latched (by decide)
  case movbkByte => exact .ran Allowed.noFlags (onlyChanges_movbk8 s) wf_movbk8
  case stmByte => exact .ran Allowed.noFlags (onlyChanges_store8 s _) wf_stm8
  case inmByte => exact .ran Allowed.noFlags (onlyChanges_store8 s _) wf_inm8
  case ldmByte => exact .ran Allowed.noFlags (onlyChanges_ldm8 s) wf_ldm8
  case outmByte => exact effect_outputs (.inr (.inr (by decide))) (onlyChanges_outm8 s) rfl wf_outm8
  case movbkWord => exact .ran Allowed.noFlags (onlyChanges_movbk16 s) wf_movbk16
  case stmWord => exact .ran Allowed.noFlags (onlyChanges_store16 s _) wf_stm16
  case inmWord => exact .ran Allowed.noFlags (onlyChanges_store16 s _) wf_inm16
  case ldmWord => exact .ran Allowed.noFlags (onlyChanges_ldm16 s) wf_ldm16
  case outmWord => exact effect_outputs (.inr (.inr (by decide))) (onlyChanges_outm16 s) rfl wf_outm16
  case repMovbkByte => exact .ran Allowed.noFlags (onlyChanges_repLoop_movbk8 s) (wf_repLoop wf_movbk8)
  case repStmByte => exact .ran Allowed.noFlags (onlyChanges_repLoop_stm8 s) (wf_repLoop wf_stm8)
  case repInmByte => exact .ran Allowed.noFlags (onlyChanges_repLoop_inm8 s) (wf_repLoop wf_inm8)
  case repLdmByte => exact .ran Allowed.noFlags (onlyChanges_repLoop_ldm8 s) (wf_repLoop wf_ldm8)
  case repOutmByte =>
    obtain ⟨o, -, -, frame⟩ := onlyChanges_repLoop_outm8 s
    exact effect_outputs (.inr (.inr (by decide))) frame rfl (wf_repLoop wf_outm8)
  case repMovbkWord => exact .ran Allowed.noFlags (onlyChanges_repLoop_movbk16 s) (wf_repLoop wf_movbk16)
  case repStmWord => exact .ran Allowed.noFlags (onlyChanges_repLoop_stm16 s) (wf_repLoop wf_stm16)
  case repInmWord => exact .ran Allowed.noFlags (onlyChanges_repLoop_inm16 s) (wf_repLoop wf_inm16)
  case repLdmWord => exact .ran Allowed.noFlags (onlyChanges_repLoop_ldm16 s) (wf_repLoop wf_ldm16)
  case repOutmWord =>
    obtain ⟨o, -, -, frame⟩ := onlyChanges_repLoop_outm16 s
    exact effect_outputs (.inr (.inr (by decide))) frame rfl (wf_repLoop wf_outm16)
  all_goals exact .raise

end Sys2Proof.Machine

/-! PROOFS. Safety of the step: every instruction answers a next state, the state stays well formed, and what a
completed step leaves (10_state.md R17, R20, R21, R24 to R29; 40_step_and_prefixes.md R100, R105, R106). -/

namespace Sys2Proof.Machine

/-! ## From the effect of an instruction -/

section OfEffect

variable {i : Instr} {s t : State} {r : Result}

theorem Effect.exists_next (h : Effect i s r) : ∃ t, r = .next t := by
  cases h with
  | ran | latched => exact ⟨_, rfl⟩
  | raised => exact ⟨_, rfl⟩

theorem Effect.wf (h : Effect i s (.next t)) (hs : s.wf = true) : t.wf = true := by
  cases h with
  | ran _ _ wf => exact wf hs
  | latched => exact State.wf_setSegOverride hs _
  | raised _ wf => exact State.wf_setHalted (wf hs) _

/-- But for the segment overrides themselves the latch is constant (R105). -/
theorem Effect.segOverride (h : Effect i s (.next t)) (hi : i ∉ [.prefixDs1, .prefixPs, .prefixSs, .prefixDs0]) :
    t.segOverride = s.segOverride := by
  cases h with
  | ran _ frame => exact frame.segOverride
  | latched hi' => exact absurd hi' hi
  | raised frame => exact frame.segOverride

/-- An instruction that did not raise has changed what it may, and the latch at most beside that. -/
theorem Effect.allowed (h : Effect i s (.next t)) (running : t.halted = none) :
    ∃ c, Allowed i s c ∧ OnlyChanges c s (t.setSegOverride s.segOverride) := by
  cases h with
  | ran allowed frame => exact ⟨_, allowed, by rw [← frame.segOverride]; exact frame⟩
  | latched => exact ⟨{}, Allowed.noFlags, .refl s⟩
  | raised => cases running

end OfEffect

/-- Settles O11: by the split over the instructions. -/
theorem everyInstructionAnswersANextState : Obligations.EveryInstructionAnswersANextState :=
  fun i s => (effect_exec i s).exists_next

/-! ## Completed steps -/

theorem State.wf_endStep {s : State} (h : s.wf = true) (op : Byte) (cost : Nat) : (s.endStep op cost).wf = true :=
  wf_setSegOverride (wf_setClock h _) _

theorem State.wf_fetched {s : State} (h : s.wf = true) (n : Nat) : (s.fetched n).wf = true :=
  wf_setPc (wf_setLastOpcode h _) _

theorem halted_eq_none_of_step {s t : State} (h : step s = .next t) : s.halted = none := by
  cases hs : s.halted with
  | none => rfl
  | some f => rw [step_of_halted hs] at h; cases h

/-- The instruction of a step and its two ends (R100). -/
theorem step_cases {s t : State} (h : step s = .next t) : ∃ i rest v, decode s.codeBytes = .ok (i, rest) ∧
    exec i (s.fetched (6 - rest.length)) = .next v ∧
    ((t = v ∧ v.halted ≠ none) ∨
      v.halted = none ∧ t = v.endStep (s.codeByte 0) (cycles i (s.fetched (6 - rest.length)))) := by
  obtain ⟨i, rest, decoded, stepped⟩ := exists_step_eq_finishStep (halted_eq_none_of_step h)
  obtain ⟨v, executed⟩ := (effect_exec i (s.fetched (6 - rest.length))).exists_next
  refine ⟨i, rest, v, decoded, executed, ?_⟩
  rw [stepped, executed] at h
  cases hv : v.halted with
  | none => rw [finishStep_of_running hv] at h; cases h; exact .inr ⟨rfl, rfl⟩
  | some f => rw [finishStep_of_halted hv] at h; cases h; exact .inl ⟨rfl, by simp⟩

/-- Settles O16: fetching, executing and ending a step each keep it. -/
theorem stepKeepsWellFormed : Obligations.StepKeepsWellFormed := by
  intro s t hs h
  obtain ⟨i, rest, v, -, executed, ends⟩ := step_cases h
  have hv : v.wf = true := (executed ▸ effect_exec i _).wf (State.wf_fetched hs _)
  rcases ends with ⟨rfl, -⟩ | ⟨-, rfl⟩
  · exact hv
  · exact State.wf_endStep hv _ _

/-- A completed step: `i` has run from `u`, the state after the fetch, to `v`. -/
structure Completed (s t : State) (i : Instr) (u v : State) : Prop where
  fetched : ∃ n, u = s.fetched n
  wellFormed : WellFormed i = true
  executed : exec i u = .next v
  running : v.halted = none
  ended : t = v.endStep (s.codeByte 0) (cycles i u)

theorem completed_of_step {s t : State} (h : step s = .next t) (ht : t.halted = none) :
    ∃ i rest u v, decode s.codeBytes = .ok (i, rest) ∧ Completed s t i u v := by
  obtain ⟨i, rest, v, decoded, executed, ends⟩ := step_cases h
  rcases ends with ⟨rfl, raised⟩ | ⟨running, ended⟩
  · exact absurd ht raised
  · exact ⟨i, rest, _, v, decoded, ⟨_, rfl⟩, (decodedBytesEncode _ _ _ decoded).1, executed, running, ended⟩

theorem completed_of_decode {s t : State} {i : Instr} {rest : List Byte} (decoded : decode s.codeBytes = .ok (i, rest))
    (h : step s = .next t) (ht : t.halted = none) : ∃ u v, Completed s t i u v := by
  obtain ⟨j, rest', u, v, decoded', completed⟩ := completed_of_step h ht
  rw [decoded] at decoded'
  cases decoded'
  exact ⟨u, v, completed⟩

namespace Completed

variable {s t u v : State} {i : Instr} (h : Completed s t i u v)
include h

/-- What the step changed beside PC, the clock, the latch and `last_opcode`. -/
theorem allowed : ∃ c, Allowed i s c ∧ OnlyChanges c u (v.setSegOverride u.segOverride) := by
  obtain ⟨n, rfl⟩ := h.fetched
  obtain ⟨c, ⟨psw, ps, output, ports⟩, frame⟩ := (h.executed ▸ effect_exec i _).allowed h.running
  exact ⟨c, ⟨psw, ps, output, ports⟩, frame⟩

theorem segOverride : t.segOverride = if isSegmentPrefix (s.codeByte 0) then v.segOverride else none := by
  rw [h.ended]
  rfl

end Completed

/-- Settles O18: what `OnlyChanges` never lets change, and the fetch. -/
theorem stepLeavesInternalAndParameters : Obligations.StepLeavesInternalAndParameters := by
  intro s t h ht
  obtain ⟨i, rest, u, v, -, completed⟩ := completed_of_step h ht
  obtain ⟨c, -, frame⟩ := completed.allowed
  obtain ⟨n, rfl⟩ := completed.fetched
  obtain rfl := completed.ended
  exact ⟨frame.internal, frame.cfg, frame.lastOpcode⟩

/-- Settles O19: an instruction other than POP PSW may change five bits. -/
theorem onlyPopPswChangesControlBits : Obligations.OnlyPopPswChangesControlBits := by
  intro s t i rest decoded hi h ht k hk
  obtain ⟨u, v, completed⟩ := completed_of_decode decoded h ht
  obtain ⟨c, allowed, frame⟩ := completed.allowed
  obtain ⟨n, rfl⟩ := completed.fetched
  obtain rfl := completed.ended
  obtain ⟨allPsw, flags⟩ := allowed.psw hi
  have apart : ∀ k ∈ [1, 3, 4, 5, 8, 9, 10, 12, 13, 14, 15], ∀ f ∈ [Flag.cy, .p, .z, .s, .v], f.bit ≠ k := by decide
  exact frame.psw allPsw k fun f hf => apart k hk f (flags hf)

/-- Settles O20: an instruction that changes PS may do so. -/
theorem onlyFarTransfersChangePs : Obligations.OnlyFarTransfersChangePs := by
  intro s t i rest decoded h ht changed
  obtain ⟨u, v, completed⟩ := completed_of_decode decoded h ht
  obtain ⟨c, allowed, frame⟩ := completed.allowed
  obtain ⟨n, rfl⟩ := completed.fetched
  obtain rfl := completed.ended
  exact allowed.ps completed.wellFormed (by_contra fun hps => changed (frame.sregs .ps hps))

/-- Settles O21: the entries appended are the change's output. -/
theorem onlyOutputsExtendTheTrace : Obligations.OnlyOutputsExtendTheTrace := by
  intro s t i rest decoded h ht
  obtain ⟨u, v, completed⟩ := completed_of_decode decoded h ht
  obtain ⟨c, allowed, frame⟩ := completed.allowed
  obtain ⟨n, rfl⟩ := completed.fetched
  obtain rfl := completed.ended
  exact ⟨c.output, frame.trace, allowed.output⟩

/-- Settles O22: a changed port is one the change names. -/
theorem onlyOutputsAndBankSwitchesChangePorts : Obligations.OnlyOutputsAndBankSwitchesChangePorts := by
  intro s t i rest decoded h ht p changed
  obtain ⟨u, v, completed⟩ := completed_of_decode decoded h ht
  obtain ⟨c, allowed, frame⟩ := completed.allowed
  obtain ⟨n, rfl⟩ := completed.fetched
  obtain rfl := completed.ended
  have named : p ∈ c.ports := by_contra fun hp => changed (frame.ports p hp)
  rcases allowed.ports p named with bank | ⟨outputs, byte, entry⟩
  · exact .inl bank
  · exact .inr ⟨outputs, c.output, byte, frame.trace, entry⟩

/-- Settles O14: the clock is advanced by the end of the step alone, by a cost of at least 1. -/
theorem clockAdvancesOnCompletedSteps : Obligations.ClockAdvancesOnCompletedSteps := by
  constructor
  · intro i s t executed ht
    obtain ⟨c, -, frame⟩ := (executed ▸ effect_exec i s).allowed ht
    exact frame.clock
  · intro s t h ht
    obtain ⟨i, rest, u, v, -, completed⟩ := completed_of_step h ht
    obtain ⟨c, -, frame⟩ := completed.allowed
    obtain ⟨n, hu⟩ := completed.fetched
    have clock : v.clock = s.clock := by simpa [hu, State.fetched] using frame.clock
    rw [completed.ended]
    exact clock ▸ Nat.lt_add_of_pos_right (one_le_cycles i u)

/-! ## The latch (R100, R105, R106) -/

theorem codeByte_zero_of_decode {s : State} {i : Instr} {rest bytes : List Byte} {b : Byte}
    (decoded : decode s.codeBytes = .ok (i, rest)) (hi : encode i = b :: bytes) : s.codeByte 0 = b := by
  have read := (decodedBytesEncode _ _ _ decoded).2
  rw [hi] at read
  exact (List.cons.inj read).1.symm

/-- The first byte is a segment override's exactly if the instruction is one. -/
theorem isSegmentPrefix_codeByte_iff {s : State} {i : Instr} {rest : List Byte}
    (decoded : decode s.codeBytes = .ok (i, rest)) :
    isSegmentPrefix (s.codeByte 0) = true ↔ i ∈ [.prefixDs1, .prefixPs, .prefixSs, .prefixDs0] := by
  constructor
  · intro hop
    rw [isSegmentPrefix_iff] at hop
    simp only [List.mem_cons, List.not_mem_nil, or_false] at hop
    rw [State.codeBytes] at decoded
    rcases hop with op | op | op | op
    all_goals
      rw [op] at decoded
      cases decoded
      decide
  · intro hi
    simp only [List.mem_cons, List.not_mem_nil, or_false] at hi
    rcases hi with rfl | rfl | rfl | rfl
    all_goals
      rw [codeByte_zero_of_decode decoded rfl]
      rfl

/-- Settles O13: a segment override sets the latch, any other instruction's step clears it. -/
theorem overrideLatchLifetime : Obligations.OverrideLatchLifetime := by
  refine ⟨fun i s t hi executed => (executed ▸ effect_exec i s).segOverride hi, ?_⟩
  intro s t i rest decoded h ht
  obtain ⟨u, v, completed⟩ := completed_of_decode decoded h ht
  have latch := completed.segOverride
  have executed := completed.executed
  have prefixed := isSegmentPrefix_codeByte_iff decoded
  have sets {r : SReg} (hi : i ∈ [.prefixDs1, .prefixPs, .prefixSs, .prefixDs0])
      (hexec : exec i u = .next (u.setSegOverride (some r))) : t.segOverride = some r := by
    rw [hexec] at executed
    cases executed
    rw [latch, if_pos (prefixed.mpr hi)]
    rfl
  refine ⟨?_, ?_, ?_, ?_, fun hi => by rw [latch, if_neg (mt prefixed.mp hi)]⟩
  iterate 4
    rintro rfl
    exact sets (by decide) rfl

end Sys2Proof.Machine

/-! PROOFS. The state no rule reads (10_state.md R25, R27 to R29): a step commutes with replacing it, by one split over
the instructions. -/

namespace Sys2Proof.Machine

/-! ## Replacing the state no rule reads -/

/-- What stands in place of the internal array, is added to the clock and precedes the trace. `last_opcode` needs no
place here: the fetch of a step replaces it. -/
structure Unread where
  internal : Mem
  ticks : Nat
  old : List (Word × Byte)

namespace Unread

def put (x : Unread) (s : State) : State :=
  { s with internal := x.internal, clock := x.ticks + s.clock, trace := x.old ++ s.trace }

def putResult (x : Unread) : Result → Result
  | .next t => .next (x.put t)
  | .fault f => .fault f
  | .refused r => .refused r

variable (x : Unread) (s : State)

/-! ## The cost is the same -/

theorem cycles_put (i : Instr) : cycles i (x.put s) = cycles i s := rfl

/-! ## Writing commutes -/

theorem setReg16_put (r : Reg16) (v : Word) : (x.put s).setReg16 r v = x.put (s.setReg16 r v) := by cases r <;> rfl

theorem setReg8_put (r : Reg8) (v : Byte) : (x.put s).setReg8 r v = x.put (s.setReg8 r v) :=
  setReg16_put x s (parentOf r) _

theorem setSReg_put (r : SReg) (v : Word) : (x.put s).setSReg r v = x.put (s.setSReg r v) := by cases r <;> rfl

theorem memWrite8_put (seg off : Word) (v : Byte) : (x.put s).memWrite8 seg off v = x.put (s.memWrite8 seg off v) := by
  unfold State.memWrite8 State.physWrite
  rw [apply_ite x.put]
  rfl

theorem memWrite16_put (seg off v : Word) : (x.put s).memWrite16 seg off v = x.put (s.memWrite16 seg off v) := by
  unfold State.memWrite16
  rw [memWrite8_put, memWrite8_put]

theorem write8_put (p : Place Reg8) (v : Byte) : (x.put s).write8 p v = x.put (s.write8 p v) := by
  cases p with
  | reg r => exact setReg8_put x s r v
  | mem seg off => exact memWrite8_put x s seg off v

theorem write16_put (p : Place Reg16) (v : Word) : (x.put s).write16 p v = x.put (s.write16 p v) := by
  cases p with
  | reg r => exact setReg16_put x s r v
  | mem seg off => exact memWrite16_put x s seg off v

theorem output8_put (p : Word) (v : Byte) : (x.put s).output8 p v = x.put (s.output8 p v) :=
  congrArg (fun trace => { x.put (s.output8 p v) with trace := trace }) (List.append_assoc _ _ _)

theorem output16_put (p v : Word) : (x.put s).output16 p v = x.put (s.output16 p v) := by
  unfold State.output16
  rw [output8_put, output8_put]

variable {s} in
theorem push16_put_of_error {v : Word} {f : Fault} (h : s.push16 v = .error f) : (x.put s).push16 v = .error f := by
  unfold State.push16 at h ⊢
  split at h
  case isTrue small =>
    cases h
    exact if_pos small
  case isFalse => cases h

variable {s} in
theorem push16_put_of_ok {v : Word} {t : State} (h : s.push16 v = .ok t) : (x.put s).push16 v = .ok (x.put t) := by
  unfold State.push16 at h ⊢
  split at h
  case isTrue => cases h
  case isFalse large =>
    cases h
    exact (if_neg large).trans (congrArg Except.ok (memWrite16_put x (s.setReg16 .sp _) _ _ _))

theorem endStep_put (op : Byte) (cost : Nat) : (x.put s).endStep op cost = x.put (s.endStep op cost) :=
  congrArg (fun clock => { x.put (s.endStep op cost) with clock := clock }) (Nat.add_assoc _ _ _)

/-! ## The transfers commute -/

theorem moveIx_put (n : Word) : moveIx (x.put s) n = x.put (moveIx s n) := rfl

theorem moveIy_put (n : Word) : moveIy (x.put s) n = x.put (moveIy s n) := rfl

theorem movbk8_put : movbk8 (x.put s) = x.put (movbk8 s) := by
  unfold movbk8
  rw [← moveIy_put, ← moveIx_put, ← memWrite8_put]
  rfl

theorem movbk16_put : movbk16 (x.put s) = x.put (movbk16 s) := by
  unfold movbk16
  rw [← moveIy_put, ← moveIx_put, ← memWrite16_put]
  rfl

theorem stm8_put : stm8 (x.put s) = x.put (stm8 s) := congrArg (moveIy · 1) (memWrite8_put x s _ _ _)

theorem stm16_put : stm16 (x.put s) = x.put (stm16 s) := congrArg (moveIy · 2) (memWrite16_put x s _ _ _)

theorem inm8_put : inm8 (x.put s) = x.put (inm8 s) := congrArg (moveIy · 1) (memWrite8_put x s _ _ _)

theorem inm16_put : inm16 (x.put s) = x.put (inm16 s) := congrArg (moveIy · 2) (memWrite16_put x s _ _ _)

theorem ldm8_put : ldm8 (x.put s) = x.put (ldm8 s) := rfl

theorem ldm16_put : ldm16 (x.put s) = x.put (ldm16 s) := rfl

theorem outm8_put : outm8 (x.put s) = x.put (outm8 s) := congrArg (moveIx · 1) (output8_put x s _ _)

theorem outm16_put : outm16 (x.put s) = x.put (outm16 s) := congrArg (moveIx · 2) (output16_put x s _ _)

theorem repeatBody_put {body : State → State} (hbody : ∀ s, body (x.put s) = x.put (body s)) (n : Nat) :
    ∀ s, repeatBody body n (x.put s) = x.put (repeatBody body n s) := by
  induction n with
  | zero => exact fun _ => rfl
  | succ n ih =>
    intro s
    have round : (body (x.put s)).setReg16 .cw ((body (x.put s)).cw - 1) =
        x.put ((body s).setReg16 .cw ((body s).cw - 1)) := by rw [hbody]; rfl
    exact (congrArg (repeatBody body n) round).trans (ih _)

theorem repLoop_put {body : State → State} (hbody : ∀ s, body (x.put s) = x.put (body s)) :
    repLoop body (x.put s) = x.put (repLoop body s) := repeatBody_put x hbody _ s

/-! ## The shared operations commute -/

theorem ite_put {p : Prop} [Decidable p] {a b a' b' : Result} (ha : a' = x.putResult a) (hb : b' = x.putResult b) :
    (if p then a' else b') = x.putResult (if p then a else b) := by
  rw [ha, hb, apply_ite x.putResult]

theorem alu8_put (op : AluOp) (dst : Place Reg8) (a b : Byte) :
    alu8 op dst a b (x.put s) = x.putResult (alu8 op dst a b s) := by
  unfold alu8
  cases aluStores op with
  | true =>
    have stored := write8_put x s dst (aluValue op a b)
    exact congrArg (fun t : State => Host.Outcome.next (t.setPsw (aluFlags op t.psw a b))) stored
  | false => rfl

theorem alu16_put (op : AluOp) (dst : Place Reg16) (a b : Word) :
    alu16 op dst a b (x.put s) = x.putResult (alu16 op dst a b s) := by
  unfold alu16
  cases aluStores op with
  | true =>
    have stored := write16_put x s dst (aluValue op a b)
    exact congrArg (fun t : State => Host.Outcome.next (t.setPsw (aluFlags op t.psw a b))) stored
  | false => rfl

theorem shift8_put (op : ShiftOp) (rm : RM8) (n : Byte) : shift8 op rm n (x.put s) = x.putResult (shift8 op rm n s) :=
  have stored := write8_put x s (resolve s rm) _
  ite_put x rfl (congrArg (fun t : State => Host.Outcome.next (t.setPsw (groupFlags op t.psw _ _ _))) stored)

theorem shift16_put (op : ShiftOp) (rm : RM16) (n : Byte) :
    shift16 op rm n (x.put s) = x.putResult (shift16 op rm n s) :=
  have stored := write16_put x s (resolve s rm) _
  ite_put x rfl (congrArg (fun t : State => Host.Outcome.next (t.setPsw (groupFlags op t.psw _ _ _))) stored)

theorem branchIf_put (cond : Bool) (d : Byte) : branchIf cond d (x.put s) = x.putResult (branchIf cond d s) := by
  cases cond <;> rfl

theorem pushValue_put (v : Word) : pushValue v (x.put s) = x.putResult (pushValue v s) := by
  unfold pushValue
  cases pushed : s.push16 v with
  | ok t => rw [push16_put_of_ok x pushed]; rfl
  | error f => rw [push16_put_of_error x pushed]; rfl

theorem execCallNear_put (d : Word) : execCallNear d (x.put s) = x.putResult (execCallNear d s) := by
  unfold execCallNear
  cases pushed : s.push16 s.pc with
  | ok t => rw [show (x.put s).push16 (x.put s).pc = _ from push16_put_of_ok x pushed]; rfl
  | error f => rw [show (x.put s).push16 (x.put s).pc = _ from push16_put_of_error x pushed]; rfl

theorem execCallFar_put (off seg : Word) : execCallFar off seg (x.put s) = x.putResult (execCallFar off seg s) := by
  unfold execCallFar
  cases pushed : s.push16 s.ps with
  | error f => rw [show (x.put s).push16 (x.put s).ps = _ from push16_put_of_error x pushed]; rfl
  | ok t =>
    rw [show (x.put s).push16 (x.put s).ps = _ from push16_put_of_ok x pushed]
    dsimp only
    cases pushed' : t.push16 t.pc with
    | error f => rw [show (x.put t).push16 (x.put t).pc = _ from push16_put_of_error x pushed']; rfl
    | ok u => rw [show (x.put t).push16 (x.put t).pc = _ from push16_put_of_ok x pushed']; rfl

/-! ## Every instruction -/

/-- The rows not named commute by computation: they only raise, or write given registers, the latch or XA_PORT. -/
theorem exec_put (i : Instr) : exec i (x.put s) = x.putResult (exec i s) := by
  cases i
  case addRm8Reg8 | addReg8Rm8 | addAlImm8 | orRm8Reg8 | orReg8Rm8 | orAlImm8 | andRm8Reg8 | andReg8Rm8 | andAlImm8 |
      subRm8Reg8 | subReg8Rm8 | subAlImm8 | xorRm8Reg8 | xorReg8Rm8 | xorAlImm8 | cmpRm8Reg8 | cmpReg8Rm8 |
      cmpAlImm8 | addRm8Imm8 | orRm8Imm8 | andRm8Imm8 | subRm8Imm8 | xorRm8Imm8 | cmpRm8Imm8 =>
    exact alu8_put x s _ _ _ _
  case addRm16Reg16 | addReg16Rm16 | addAwImm16 | orRm16Reg16 | orReg16Rm16 | orAwImm16 | andRm16Reg16 |
      andReg16Rm16 | andAwImm16 | subRm16Reg16 | subReg16Rm16 | subAwImm16 | xorRm16Reg16 | xorReg16Rm16 |
      xorAwImm16 | cmpRm16Reg16 | cmpReg16Rm16 | cmpAwImm16 | addRm16Imm16 | orRm16Imm16 | andRm16Imm16 |
      subRm16Imm16 | xorRm16Imm16 | cmpRm16Imm16 | addRm16Simm8 | orRm16Simm8 | andRm16Simm8 | subRm16Simm8 |
      xorRm16Simm8 | cmpRm16Simm8 =>
    exact alu16_put x s _ _ _ _
  case incReg16 r | decReg16 r => cases r <;> rfl
  case rolRm8Imm8 | rorRm8Imm8 | rolcRm8Imm8 | rorcRm8Imm8 | shlRm8Imm8 | shrRm8Imm8 | shraRm8Imm8 | rolRm8Cl |
      rorRm8Cl | rolcRm8Cl | rorcRm8Cl | shlRm8Cl | shrRm8Cl | shraRm8Cl =>
    exact shift8_put x s _ _ _
  case rolRm8One | rorRm8One | rolcRm8One | rorcRm8One | shlRm8One | shrRm8One | shraRm8One =>
    exact shift8_put x s _ _ 1
  case rolRm16Imm8 | rorRm16Imm8 | rolcRm16Imm8 | rorcRm16Imm8 | shlRm16Imm8 | shrRm16Imm8 | shraRm16Imm8 |
      rolRm16Cl | rorRm16Cl | rolcRm16Cl | rorcRm16Cl | shlRm16Cl | shrRm16Cl | shraRm16Cl =>
    exact shift16_put x s _ _ _
  case rolRm16One | rorRm16One | rolcRm16One | rorcRm16One | shlRm16One | shrRm16One | shraRm16One =>
    exact shift16_put x s _ _ 1
  case divuRm8 | divRm8 | divuRm16 | divRm16 => exact ite_put x rfl rfl
  case bv | bnv | bc | bnc | be | bne | bnh | bh | bn | bp | bpe | bpo | blt | bge | ble | bgt =>
    exact branchIf_put x s _ _
  case callNear => exact execCallNear_put x s _
  case callFar => exact execCallFar_put x s _ _
  case pushDs1 | pushPs | pushSs | pushDs0 | pushReg16 | pushPsw => exact pushValue_put x s _
  case movRm8Reg8 | movRm8Imm8 => exact congrArg Host.Outcome.next (write8_put x s _ _)
  case movRm16Reg16 | movRm16Sreg | movRm16Imm16 => exact congrArg Host.Outcome.next (write16_put x s _ _)
  case movDirectAl => exact congrArg Host.Outcome.next (memWrite8_put x s _ _ _)
  case movDirectAw => exact congrArg Host.Outcome.next (memWrite16_put x s _ _ _)
  case movReg8Rm8 | movReg8Imm8 => exact congrArg Host.Outcome.next (setReg8_put x s _ _)
  case movReg16Rm16 | movReg16Imm16 => exact congrArg Host.Outcome.next (setReg16_put x s _ _)
  case popReg16 => exact congrArg Host.Outcome.next (setReg16_put x s.pop16.2 _ _)
  case movSsDs0Rm16 => exact congrArg Host.Outcome.next (setSReg_put x s _ _)
  case outImm8Al | outDwAl => exact congrArg Host.Outcome.next (output8_put x s _ _)
  case outImm8Aw | outDwAw => exact congrArg Host.Outcome.next (output16_put x s _ _)
  case movbkByte => exact congrArg Host.Outcome.next (movbk8_put x s)
  case stmByte => exact congrArg Host.Outcome.next (stm8_put x s)
  case outmByte => exact congrArg Host.Outcome.next (outm8_put x s)
  case inmByte => exact congrArg Host.Outcome.next (inm8_put x s)
  case movbkWord => exact congrArg Host.Outcome.next (movbk16_put x s)
  case stmWord => exact congrArg Host.Outcome.next (stm16_put x s)
  case outmWord => exact congrArg Host.Outcome.next (outm16_put x s)
  case inmWord => exact congrArg Host.Outcome.next (inm16_put x s)
  case repMovbkByte => exact congrArg Host.Outcome.next (repLoop_put x s (movbk8_put x))
  case repStmByte => exact congrArg Host.Outcome.next (repLoop_put x s (stm8_put x))
  case repLdmByte => exact congrArg Host.Outcome.next (repLoop_put x s (ldm8_put x))
  case repOutmByte => exact congrArg Host.Outcome.next (repLoop_put x s (outm8_put x))
  case repInmByte => exact congrArg Host.Outcome.next (repLoop_put x s (inm8_put x))
  case repMovbkWord => exact congrArg Host.Outcome.next (repLoop_put x s (movbk16_put x))
  case repStmWord => exact congrArg Host.Outcome.next (repLoop_put x s (stm16_put x))
  case repLdmWord => exact congrArg Host.Outcome.next (repLoop_put x s (ldm16_put x))
  case repOutmWord => exact congrArg Host.Outcome.next (repLoop_put x s (outm16_put x))
  case repInmWord => exact congrArg Host.Outcome.next (repLoop_put x s (inm16_put x))
  all_goals rfl

/-! ## The step -/

variable {s} in
/-- The fetch replaces `last_opcode`, and the clock counts on from where it stood. -/
theorem step_put {t : State} (last : Byte) (h : step s = .next t) (ht : t.halted = none) :
    step ((x.put s).setLastOpcode last) = .next (x.put t) := by
  have standing := halted_eq_none_of_step h
  obtain ⟨i, rest, v, decoded, executed, ends⟩ := step_cases h
  obtain ⟨running, ended⟩ := ends.resolve_left fun ⟨same, raised⟩ => raised (same ▸ ht)
  have read : ((x.put s).setLastOpcode last).codeBytes = s.codeBytes := rfl
  have fetched (n : Nat) : ((x.put s).setLastOpcode last).fetched n = x.put (s.fetched n) := rfl
  have stepped := step_eq_finishStep (s := (x.put s).setLastOpcode last) standing (read ▸ decoded)
  rw [stepped, fetched, exec_put, executed, cycles_put, ended]
  exact (finishStep_of_running (t := x.put v) running _ _).trans (congrArg Host.Outcome.next (endStep_put x v _ _))

end Unread

/-- Settles O23: fetch, execution and the end of the step each commute with the replacement. -/
theorem unreadStateDoesNotMatter : Obligations.UnreadStateDoesNotMatter :=
  fun _ _ array last ticks old h ht => Unread.step_put ⟨array, ticks, old⟩ last h ht

end Sys2Proof.Machine
